-- ==== Sys2Proof/Word.lean ====
section
/-! DEFINITION. Word.lean: the one machine word of the PK-60 that the manual treats as bits, the ring byte. Every other
quantity of the manual is a whole number in a stated range (00_scope.md, Numbers and units) and is a `Nat`. -/

namespace Sys2Proof

/-- One byte of a ring frame (01_the_field_ring.md, 1.1). -/
abbrev Byte := BitVec 8

/-- The 16-bit check register of a ring frame (01_the_field_ring.md, 1.1). -/
abbrev Check := BitVec 16

end Sys2Proof
end

