-- ==== Sys2Proof/Syntax.lean ====
section
/-! DEFINITION. Syntax.lean: the commands of the PK-60, one constructor of `Instr` per row of spec/opcode_table.json, with
the operands that single the event out, and the names those operands use.

A row is one whole step of the part (95_what_each_step_holds.md). Three kinds of row stand side by side: events on the
part's lines and ports, expiries of its own timers, and the SERVING of one management request. A request's arguments are
no operands of its row: they reach the part in a REQUEST frame (`frameReceived`), wait in the request queue (R161), and
the serving step reads them from the head of that queue (R162). -/

namespace Sys2Proof

/-- The ten fault classes, in class-code order (08_fault_records_and_alerts.md, 8.1). -/
inductive FaultClass where
  | fanStall | fanNoLoad | fanOverspeed | fanDriveTrip | gasSensorFault | baySensorFault | lampOpen | nodeSilent
  | actuatorNoTake | ringSilent
deriving DecidableEq, Repr, Inhabited

/-- The three fan tests that have a deglitch timer (R86). -/
inductive FanTest where
  | stall | noLoad | overspeed
deriving DecidableEq, Repr, Inhabited

/-- An actuator, which is also the name of its delivery record: kind and entry index (R38). -/
inductive Actuator where
  | fan (i : Nat) | group (i : Nat) | sign (i : Nat)
deriving DecidableEq, Repr, Inhabited

/-- The commands: one constructor per row of the operation table. -/
inductive Instr where
  /-- POWER_ON (R181): power is applied, with the strap values read at that moment (R3). -/
  | powerOn (rate addr : Nat)
  /-- RESET_ACTIVE (R19). -/
  | resetActive
  /-- RESET_RELEASE (R181), with the ADDR strap value read at that moment (R3). -/
  | resetRelease (addr : Nat)
  /-- LOADING_COMPLETE (R181). -/
  | loadingComplete
  /-- FRAME_RECEIVED (R4): the bytes collected since the previous end, and whether a character had a framing error (R2). -/
  | frameReceived (bytes : List Byte) (framingError : Bool)
  /-- FRAME_SENT (R15). -/
  | frameSent
  /-- ARBITER_DECISION (R14). -/
  | arbiterDecision
  /-- RING_SILENCE_EXPIRY (R17). -/
  | ringSilenceExpiry
  /-- NODE_SILENCE_EXPIRY (R25) of the node at `addr`. -/
  | nodeSilenceExpiry (addr : Nat)
  /-- RETURN_TIMER_EXPIRY (R46) of one delivery record. -/
  | returnTimerExpiry (a : Actuator)
  /-- RESEND_TIMER_EXPIRY (R48) of one delivery record. -/
  | resendTimerExpiry (a : Actuator)
  /-- PROXY_TIMER_EXPIRY (R51). -/
  | proxyTimerExpiry
  /-- EVALUATION (R70). -/
  | evaluation
  /-- FAN_DEGLITCH_EXPIRY (R86) of one fan and one test. -/
  | fanDeglitchExpiry (fan : Nat) (test : FanTest)
  /-- BAY_SETTLE_EXPIRY (R101) of one bay. -/
  | baySettleExpiry (bay : Nat)
  /-- TRANSIT_TIMEOUT (R107) of one level's arrival list. -/
  | transitTimeout (level : Nat)
  /-- SIGN_INTERVAL_EXPIRY (R113) of one sign. -/
  | signIntervalExpiry (sign : Nat)
  /-- LIGHT_STEP (R124). -/
  | lightStep
  /-- HOLD_TIMER_EXPIRY (R120) of one luminaire group. -/
  | holdTimerExpiry (group : Nat)
  /-- LAMP_TIMER_EXPIRY (R125) of one luminaire group. -/
  | lampTimerExpiry (group : Nat)
  /-- RETRY_TIMER_EXPIRY (R138) of the fault record of one class and address. -/
  | retryTimerExpiry (cls : FaultClass) (addr : Nat)
  /-- FIRE_IN_ACTIVE (R150), after the 100 ms filter of R149. -/
  | fireInActive
  /-- FIRE_IN_INACTIVE (R149), after the filter. -/
  | fireInInactive
  /-- KEYSW_CHANGE (R149), after the filter: the new level. -/
  | keyswChange (active : Bool)
  /-- START_DELAY_EXPIRY (R155) of one fan. -/
  | startDelayExpiry (fan : Nat)
  /-- AIM (R165) at the head of the request queue is served. -/
  | aim
  /-- PUT (R168) at the head of the request queue is served. -/
  | put
  /-- FETCH (R169) at the head of the request queue is served. -/
  | fetch
  /-- KEEP (R170) at the head of the request queue is served. -/
  | keep
  /-- STATE ZONE (R72) at the head of the request queue is served. -/
  | stateZone
  /-- STATE LEVEL (R116) at the head of the request queue is served. -/
  | stateLevel
  /-- STATE FAN (R93) at the head of the request queue is served. -/
  | stateFan
  /-- STATE GROUP (R130) at the head of the request queue is served. -/
  | stateGroup
  /-- STATE SIGN (R116) at the head of the request queue is served. -/
  | stateSign
  /-- STATE SUMMARY (R147) at the head of the request queue is served. -/
  | stateSummary
  /-- STATE SUMMARY RAW (R147) at the head of the request queue is served. -/
  | stateSummaryRaw
  /-- STATE RING (R18) at the head of the request queue is served. -/
  | stateRing
  /-- ACK (R144, R172) at the head of the request queue is served. -/
  | ack
  /-- CLEAR FAULTS (R141, R172) at the head of the request queue is served. -/
  | clearFaults
  /-- MANUAL (R80, R173) at the head of the request queue is served. -/
  | manual
  /-- AUTO (R81, R173) at the head of the request queue is served. -/
  | auto
  /-- CLOSE LEVEL (R108, R173) at the head of the request queue is served. -/
  | closeLevel
  /-- OPEN LEVEL (R108, R173) at the head of the request queue is served. -/
  | openLevel
  /-- HOLD BAYS (R174) at the head of the request queue is served. -/
  | holdBays
  /-- FIRE ON (R150, R173) at the head of the request queue is served. -/
  | fireOn
  /-- FIRE OFF (R151, R173) at the head of the request queue is served. -/
  | fireOff
  /-- LOCK PLAN (R157, R170) at the head of the request queue is served. -/
  | lockPlan
  /-- UNLOCK PLAN (R158, R170) at the head of the request queue is served. -/
  | unlockPlan
  /-- ASK NODE (R175) at the head of the request queue is served. -/
  | askNode
  /-- RESTART (R176) at the head of the request queue is served. -/
  | restart
  /-- A request whose code or payload does not fit (R162) is served. -/
  | unknownRequest
  /-- RESTART_EFFECT (R20): a restart that waited for a frame on port B takes effect. -/
  | restartEffect
  /-- STORE_OPERATION_COMPLETE (R179), with whether the contents read back match. -/
  | storeOperationComplete (readBackMatches : Bool)
deriving DecidableEq, Repr, Inhabited

end Sys2Proof
end

