-- ==== Sys2Proof/Config.lean ====
section
/-! DEFINITION. Config.lean: the free values. Each is an opaque constant with no body, so no proof can see it and a
statement about it holds whatever it is. -/

namespace Sys2Proof

/-- Which of several hand-overs, or of several events due at one instant, is taken first where the manual says that
there is no order among them (R30, R77, R85, R154, R156, R181 and the races). The argument is the state's draw counter. -/
opaque Config.pick : Nat → Nat

/-- Whether a time to expiry that is no whole number of tenths of a second is shown rounded up. The manual gives the
unit 0.1 s and no rounding. The argument is the remainder in clock ticks. -/
opaque Config.tenthsRoundUp : Nat → Bool

/-- The byte that stands in a reply where the manual gives a view's field as absent, none, stopped, run out or unknown
and states no code for that: view, field of the view, byte of the field. -/
opaque Config.absentByte : Nat → Nat → Nat → Byte

/-- The level byte of the one group COMMAND sent to a group address at fire entry (R16): each driver of the range is to
go to its own full level, and the manual does not say what level the single frame carries. -/
opaque Config.groupCommandLevel : Nat → Byte

/-- The class byte of a FAULTS entry beyond the last record (R134): the manual gives the class NONE no code. -/
opaque Config.classNoneByte : Byte

/-- The request code byte in the reply to a request with an empty payload: the reply begins with the code it answers
(R160), and such a request has none. -/
opaque Config.missingCodeByte : Byte

/-- Whether the read-back of a store operation matches, where the operation runs to its longest time and no command has
told the outcome (R179). The argument is the state's draw counter. -/
opaque Config.readBackMatches : Nat → Bool

/-- Whether the check of an area still matches its contents when start-up loading judges it (R177, R181). The arguments are
the state's draw counter and the area: 0 for the settings area, 1 for the plan area. -/
opaque Config.areaCheckMatches : Nat → Nat → Bool

end Sys2Proof
end

