-- ==== Sys2Proof/Machine/Types.lean ====
section
/-! DEFINITION. Machine/Types.lean: the kinds of data the state is made of. Names and ranges are the manual's; a quantity
is a `Nat` in the unit its chapter gives. A `Timer` holds the clock tick at which it expires, or `none` when stopped. -/

namespace Sys2Proof.Machine

/-- A timer: stopped, or running with the tick of the model's clock at which it expires. -/
abbrev Timer := Option Nat

/-! ## Settings and directions (3.2, 5.1) -/

/-- A fan direction (R38, R39). -/
inductive Direction where
  | forward | reverse
deriving DecidableEq, Repr, Inhabited

/-- A sign arrow, in code order (3.2). -/
inductive Arrow where
  | none | left | right | ahead | upRamp | downRamp
deriving DecidableEq, Repr, Inhabited

/-- A sign mode. The value is held in NUMBER only, so that equality of settings is that of R39. -/
inductive SignMode where
  | number (value : Nat) | full | closed | exit
deriving DecidableEq, Repr, Inhabited

/-- A sign setting: mode (with value in NUMBER) and arrow (3.2). -/
structure SignSetting where
  mode : SignMode
  arrow : Arrow
deriving DecidableEq, Repr, Inhabited

/-- A fan setting: speed in per cent and direction (3.2). -/
structure FanSetting where
  speed : Nat
  direction : Direction
deriving DecidableEq, Repr, Inhabited

/-- The whole of what one command tells an actuator (3.2). -/
inductive Setting where
  | fan (f : FanSetting)
  | luminaire (level : Nat)
  | sign (s : SignSetting)
deriving DecidableEq, Repr, Inhabited

/-! ## Table entries -/

/-- A ZONES entry (4.3). -/
structure ZoneEntry where
  level : Nat
  coFull : Nat
  no2Full : Nat
  shift : Nat
  substitute : Nat
  floor : Nat
  trafficFactor : Nat
  decay : Nat
  up1 : Nat
  up2 : Nat
  up3 : Nat
  dn1 : Nat
  dn2 : Nat
  dn3 : Nat
  airOff : Nat
  airLow : Nat
  airMid : Nat
  airHigh : Nat
  dwell : Nat
  alarm : Nat
  lightForce : Nat
deriving DecidableEq, Repr, Inhabited

/-- A GASSENSORS entry (4.1). -/
structure GasEntry where
  addr : Nat
  zone : Nat
deriving DecidableEq, Repr, Inhabited

/-- A FANS entry (5.1). -/
structure FanEntry where
  addr : Nat
  zone : Nat
  ratedFlow : Nat
  minSpeed : Nat
  rampStep : Nat
  stallRatio : Nat
  stallTime : Nat
  noLoadCurrent : Nat
  noLoadTime : Nat
  overMargin : Nat
  overTime : Nat
deriving DecidableEq, Repr, Inhabited

/-- A BAYCLUSTERS entry (6.1). -/
structure ClusterEntry where
  addr : Nat
  first : Nat
  count : Nat
deriving DecidableEq, Repr, Inhabited

/-- A BAYS entry (6.1). -/
structure BayEntry where
  row : Nat
  held : Bool
deriving DecidableEq, Repr, Inhabited

/-- A ROWS entry (6.1). -/
structure RowEntry where
  level : Nat
  zone : Nat
deriving DecidableEq, Repr, Inhabited

/-- A LEVELS entry (6.1); the transit timeout is in seconds. -/
structure LevelEntry where
  closure : Nat
  release : Nat
  transit : Nat
deriving DecidableEq, Repr, Inhabited

/-- A LANES entry (6.1). -/
structure LaneEntry where
  addr : Nat
  zone : Nat
  inLevel : Option Nat
  outLevel : Option Nat
  passThrough : Bool
  increment : Nat
  jumpLimit : Nat
deriving DecidableEq, Repr, Inhabited

/-- A source of a sign (6.1). -/
inductive SignSource where
  | row (r : Nat) | level (l : Nat)
deriving DecidableEq, Repr, Inhabited

/-- A SIGNS entry (6.1). -/
structure SignEntry where
  addr : Nat
  sources : List SignSource
  holdback : Nat
  fullThreshold : Nat
  arrowOpen : Arrow
  arrowFull : Arrow
  arrowFire : Arrow
deriving DecidableEq, Repr, Inhabited

/-- A trigger of a luminaire group (7.1). -/
inductive Trigger where
  | row (r : Nat) | lane (l : Nat) | ownMotion
deriving DecidableEq, Repr, Inhabited

/-- A GROUPS entry (7.1). -/
structure GroupEntry where
  addr : Nat
  zone : Nat
  level : Nat
  triggers : List Trigger
  base : Nat
  full : Nat
  holdTime : Nat
  fadeStep : Nat
  lampThreshold : Nat
  lampTime : Nat
  motionIncrement : Nat
deriving DecidableEq, Repr, Inhabited

/-- A response mode (8.2). -/
inductive Mode where
  | latch | retry | report | ignore
deriving DecidableEq, Repr, Inhabited

/-- What a fan out of service is sent (8.2). -/
inductive Action where
  | stop | release
deriving DecidableEq, Repr, Inhabited

/-- A RESPONSES entry (8.2); the retry interval is in seconds. -/
structure ResponseEntry where
  mode : Mode
  action : Action
  interval : Nat
  limit : Nat
deriving DecidableEq, Repr, Inhabited

/-- What fire mode does with a fan (9.3). -/
inductive PlanAction where
  | runForward | runReverse | stop | leave
deriving DecidableEq, Repr, Inhabited

/-- A PLAN entry (9.3); the start delay is in seconds. -/
structure PlanEntry where
  action : PlanAction
  speed : Nat
  delay : Nat
deriving DecidableEq, Repr, Inhabited

/-- The CONTROL fields of one group address (1.8). -/
structure GroupAddress where
  defined : Bool
  low : Nat
  high : Nat
  luminaires : Bool
deriving DecidableEq, Repr, Inhabited

/-- The CONTROL table: part-wide settings (10.4). Times are in seconds, but the return timeout in milliseconds and the
resend and sign intervals in tenths of a second, as they travel (R166). -/
structure Control where
  hops : Nat
  ringSilence : Nat
  silenceGas : Nat
  silenceBay : Nat
  silenceLane : Nat
  silenceFan : Nat
  silenceLuminaire : Nat
  silenceSign : Nat
  returnTimeout : Nat
  resendInterval : Nat
  bayIncrement : Nat
  evaluationPeriod : Nat
  baySettle : Nat
  signInterval : Nat
  panel : Nat
  managers : List Nat
  enables : Vector Bool 10
  groupAddresses : Vector GroupAddress 15
deriving DecidableEq, Repr, Inhabited

/-- The twelve tables of the settings area (R177). -/
structure Settings where
  control : Control
  zones : Vector ZoneEntry 16
  gasSensors : Vector GasEntry 64
  fans : Vector FanEntry 48
  clusters : Vector ClusterEntry 256
  bays : Vector BayEntry 2048
  rows : Vector RowEntry 64
  levels : Vector LevelEntry 8
  lanes : Vector LaneEntry 32
  signs : Vector SignEntry 48
  groups : Vector GroupEntry 96
  responses : Vector ResponseEntry 10
deriving DecidableEq, Repr

/-- The PLAN table (9.3). -/
abbrev Plan := Vector PlanEntry 48

/-! ## Ring interface (chapter 1) -/

/-- What a frame of the insertion queue is for, which says who is told when it starts (1.6). -/
inductive FrameBody where
  /-- A command of a delivery record, with the setting it carries (R40). -/
  | command (a : Actuator) (s : Setting)
  /-- A group command to the group address `g` (R16). -/
  | groupFull (g : Nat)
  /-- The proxy frame (R51): operation code, setting id, value. -/
  | proxy (op id value : Nat)
  /-- A reply, with its payload (R163). -/
  | reply (payload : List Byte)
  /-- The notice. Its contents are the pending notice's risen set until it starts (R146). -/
  | notice
deriving DecidableEq, Repr, Inhabited

/-- A frame offered to the insertion queue: class, destination, tag (filled in at the start for commands, R13), body. -/
structure Draft where
  urgent : Bool
  dest : Nat
  tag : Nat
  body : FrameBody
deriving DecidableEq, Repr, Inhabited

/-- A frame of the insertion queue: a draft and its time of entry, as a running number (R10). -/
structure QFrame where
  draft : Draft
  entry : Nat
deriving DecidableEq, Repr, Inhabited

/-- A claim on the insertion queue (R11). -/
inductive Claim where
  | record (a : Actuator) | reply | proxy | notice | group (g : Nat)
deriving DecidableEq, Repr, Inhabited

/-- Port B (R2, R15): resting, sending a frame whose last check byte leaves at a tick, or holding the gap. -/
inductive PortB where
  | resting
  | sending (frame : List Byte) (relayed : Bool) (endsAt : Nat)
  | gap (endsAt : Nat)
deriving DecidableEq, Repr, Inhabited

/-- The ring interface (chapter 1). -/
structure Ring where
  ownAddress : Nat
  rate : Nat
  relayQueue : List (List Byte)
  insertion : List QFrame
  claims : List Claim
  runCount : Nat
  relayed : Nat
  badCheck : Nat
  hopExpiry : Nat
  relayFull : Nat
  ringSilent : Bool
  silenceTimer : Timer
  portB : PortB
  /-- The model's own: the next time of entry of an insertion-queue frame (R10). -/
  nextEntry : Nat
deriving DecidableEq, Repr, Inhabited

/-- A good frame, decoded into its fields (1.1). -/
structure Frame where
  dest : Nat
  source : Nat
  kind : Nat
  hops : Nat
  tag : Nat
  mark : Nat
  payload : List Byte
deriving DecidableEq, Repr, Inhabited

/-! ## Node map (chapter 2) -/

/-- The kind of equipment at an address (R21). -/
inductive NodeKind where
  | gas | bay | lane | fan | luminaire | sign
deriving DecidableEq, Repr, Inhabited

/-- Liveness of a node (2.3). -/
inductive Liveness where
  | unheard | live | silent
deriving DecidableEq, Repr, Inhabited

/-- The last cumulative count taken from a node (R21). -/
inductive Baseline where
  | absent | lane (inCount outCount : Nat) | motion (count : Nat)
deriving DecidableEq, Repr, Inhabited

/-- A node map record (R21). `equipment` is the kind and entry; `none` is kind NONE. -/
structure NodeRecord where
  equipment : Option (NodeKind × Nat)
  liveness : Liveness
  silenceTimer : Timer
  baseline : Baseline
  sensorFault : Bool
deriving DecidableEq, Repr, Inhabited

/-! ## Command delivery (chapter 3) -/

/-- States of a delivery record (3.3). -/
inductive DeliveryState where
  | idle | queued | inFlight | resendWait | waitingRoom
deriving DecidableEq, Repr, Inhabited

/-- A desired setting with its class (R39). -/
structure Desired where
  setting : Setting
  urgent : Bool
deriving DecidableEq, Repr, Inhabited

/-- What a record has on the ring (R38): the in-flight setting, tag and destination. -/
structure InFlight where
  setting : Setting
  tag : Nat
  dest : Nat
deriving DecidableEq, Repr, Inhabited

/-- A delivery record (R38). -/
structure DeliveryRecord where
  desired : Option Desired
  lastTaken : Option Setting
  inFlight : Option InFlight
  attempts : Nat
  state : DeliveryState
  returnTimer : Timer
  resendTimer : Timer
deriving DecidableEq, Repr, Inhabited

/-- States of the proxy access (R51). -/
inductive ProxyState where
  | idle | waitingRoom | queued | inFlight
deriving DecidableEq, Repr, Inhabited

/-- The proxy access (R51). -/
structure Proxy where
  state : ProxyState
  target : Nat
  op : Nat
  id : Nat
  value : Nat
  tag : Nat
  timer : Timer
deriving DecidableEq, Repr, Inhabited

/-- Command delivery (chapter 3). `noTake` marks the addresses with ACTUATOR_NO_TAKE present (R47). -/
structure Delivery where
  fans : Vector DeliveryRecord 48
  groups : Vector DeliveryRecord 96
  signs : Vector DeliveryRecord 48
  tagCounter : Nat
  proxy : Proxy
  noTake : Vector Bool 224
deriving DecidableEq, Repr

/-! ## Air block (chapter 4) -/

/-- The status of a gas sensor report (2.4). -/
inductive GasStatus where
  | ok | warming | fault
deriving DecidableEq, Repr, Inhabited

/-- A sensor record (R53); averages in sixteenths of the reading unit. -/
structure SensorRecord where
  co : Option Nat
  no2 : Option Nat
  lastStatus : Option GasStatus
deriving DecidableEq, Repr, Inhabited

/-- A ventilation stage (R60). -/
inductive Stage where
  | off | low | mid | high
deriving DecidableEq, Repr, Inhabited

/-- A zone record (R60). `source` is the GASSENSORS entry, or `none` for SUBSTITUTE. -/
structure ZoneRecord where
  evaluated : Bool
  airIndex : Nat
  source : Option Nat
  usable : Nat
  load : Nat
  trafficIndex : Nat
  demand : Nat
  stage : Stage
  dwell : Nat
  airflow : Nat
  shortfall : Bool
  gasHigh : Bool
deriving DecidableEq, Repr, Inhabited

/-- The air block (chapter 4). -/
structure Air where
  sensors : Vector SensorRecord 64
  zones : Vector ZoneRecord 16
  evaluationTimer : Timer
deriving DecidableEq, Repr

/-! ## Fan block (chapter 5) -/

/-- Service state with the fan action while OUT (R75, R82). -/
inductive Service where
  | inService | out (a : Action)
deriving DecidableEq, Repr, Inhabited

/-- The status a fan drive reports (2.4). -/
inductive DriveStatus where
  | running | stopped | tripped
deriving DecidableEq, Repr, Inhabited

/-- A decoded fan drive report (R31). -/
structure DriveReport where
  speed : Nat
  current : Nat
  direction : Direction
  status : DriveStatus
deriving DecidableEq, Repr, Inhabited

/-- A deglitched condition: its timer and whether it is present (R86). -/
structure Deglitch where
  timer : Timer
  present : Bool
deriving DecidableEq, Repr, Inhabited

/-- A fan record (R75). -/
structure FanRecord where
  manualMode : Bool
  manual : FanSetting
  commanded : FanSetting
  service : Service
  held : Bool
  reported : Option DriveReport
  stall : Deglitch
  noLoad : Deglitch
  overspeed : Deglitch
  trip : Bool
deriving DecidableEq, Repr, Inhabited

/-! ## Guidance block (chapter 6) -/

/-- A bay state a cluster can report (2.4). -/
inductive SlotState where
  | free | taken | fault
deriving DecidableEq, Repr, Inhabited

/-- A bay record (R99); `state = none` is UNKNOWN. -/
structure BayRecord where
  state : Option SlotState
  pending : Option SlotState
  timer : Timer
  lastReported : Option SlotState
deriving DecidableEq, Repr, Inhabited

/-- An arrival entry (R105): arrival time in 0.1 s since start-up, and the lane counter's address. -/
structure Arrival where
  time : Nat
  lane : Nat
deriving DecidableEq, Repr, Inhabited

/-- A closure reason set (R108). -/
structure Reasons where
  air : Bool
  shortfall : Bool
  fire : Bool
  operator : Bool
deriving DecidableEq, Repr, Inhabited

/-- A level record (R104, R105, R108). -/
structure LevelRecord where
  free : Nat
  arrivals : List Arrival
  dropped : Nat
  aged : Nat
  reasons : Reasons
deriving DecidableEq, Repr, Inhabited

/-- A sign record (R113); `timer = none` is run out. -/
structure SignRecord where
  computed : SignSetting
  lastSent : Option SignSetting
  timer : Timer
  pending : Bool
  out : Bool
deriving DecidableEq, Repr, Inhabited

/-- The guidance block (chapter 6). `clusterFault` marks the clusters with BAY_SENSOR_FAULT present (R103). -/
structure Guide where
  bays : Vector BayRecord 2048
  rowFree : Vector Nat 64
  levels : Vector LevelRecord 8
  signs : Vector SignRecord 48
  clusterFault : Vector Bool 256
deriving DecidableEq, Repr

/-! ## Lighting block (chapter 7) -/

/-- A group's state (R119). -/
inductive GroupState where
  | base | hold | forced
deriving DecidableEq, Repr, Inhabited

/-- Forced causes of a group (R119). -/
structure Causes where
  fire : Bool
  air : Bool
  shortfall : Bool
deriving DecidableEq, Repr, Inhabited

/-- A decoded luminaire driver report, less its motion count (R32). -/
structure LampReport where
  output : Nat
  current : Nat
deriving DecidableEq, Repr, Inhabited

/-- A group record (R119); `output = none` is unknown. -/
structure GroupRecord where
  state : GroupState
  causes : Causes
  holdTimer : Timer
  target : Nat
  output : Option Nat
  out : Bool
  reported : Option LampReport
  lamp : Deglitch
deriving DecidableEq, Repr, Inhabited

/-- The lighting block (chapter 7). -/
structure Light where
  groups : Vector GroupRecord 96
  stepTimer : Timer
deriving DecidableEq, Repr

/-! ## Fault block (chapter 8) -/

/-- The ten summary flags, in code order (8.8). -/
inductive Flag where
  | fire | gasHigh | shortfall | fan | sensor | lamp | node | ring | store | listFull
deriving DecidableEq, Repr, Inhabited

/-- State of a fault record (8.4). -/
inductive RecordState where
  | active | out | latched | ended
deriving DecidableEq, Repr, Inhabited

/-- A fault record (R134). -/
structure FaultRecord where
  cls : FaultClass
  addr : Nat
  state : RecordState
  present : Bool
  retries : Nat
  occurrences : Nat
  firstTime : Nat
  lastTime : Nat
  timer : Timer
  overridden : Bool
deriving DecidableEq, Repr, Inhabited

/-- State of the pending notice (R146). -/
inductive NoticeState where
  | none | queued | waitingRoom
deriving DecidableEq, Repr, Inhabited

/-- The fault block (chapter 8). -/
structure Faults where
  list : List FaultRecord
  flags : Vector Bool 10
  alert : Bool
  gasHigh : Vector Bool 16
  shortfall : Vector Bool 16
  risen : Vector Bool 10
  notice : NoticeState
  noticeNumber : Nat
deriving DecidableEq, Repr

/-! ## Fire block (chapter 9) -/

/-- A fan's start timer (R152, R155). -/
inductive StartTimer where
  | stopped | running (expiresAt : Nat) | expired
deriving DecidableEq, Repr, Inhabited

/-- The fire block (chapter 9). `fireIn` and `keysw` are the filtered levels (R149); `fireHeld` is a change of FIRE_IN
to active held during loading (R149). -/
structure Fire where
  latch : Bool
  plan : Plan
  planLock : Bool
  startTimers : Vector StartTimer 48
  fireIn : Bool
  fireHeld : Bool
  keysw : Bool
deriving DecidableEq, Repr

/-! ## Management block (chapter 10) -/

/-- A queued request (R161). -/
structure Request where
  source : Nat
  tag : Nat
  payload : List Byte
deriving DecidableEq, Repr, Inhabited

/-- A built reply (R163). -/
structure Reply where
  dest : Nat
  tag : Nat
  payload : List Byte
deriving DecidableEq, Repr, Inhabited

/-- The table cursor (R164). -/
structure Cursor where
  table : Nat
  base : Nat
  index : Nat
deriving DecidableEq, Repr, Inhabited

/-- The sender of a request that is answered later (R170, R175). -/
structure Sender where
  source : Nat
  tag : Nat
deriving DecidableEq, Repr, Inhabited

/-- The management block (chapter 10). `storeSender` and `proxySender` hold whom the running store operation and the
proxy access answer; `restartPending` is a RESTART served and not yet in effect (R176). -/
structure Mgmt where
  queue : List Request
  outgoing : List Reply
  cursor : Cursor
  storeSender : Option Sender
  proxySender : Option Sender
  restartPending : Bool
deriving DecidableEq, Repr, Inhabited

/-! ## Settings store (chapter 11) -/

/-- A store area as judged whole by its check: bad, or good with its contents (R177). -/
inductive Area (α : Type) where
  | bad | good (contents : α)
deriving DecidableEq, Repr, Inhabited

/-- What the plan area holds (R177). -/
structure PlanArea where
  plan : Plan
  lock : Bool
deriving DecidableEq, Repr

/-- A store operation with the contents taken when it started (R178). -/
inductive StoreOp where
  | keep (contents : Settings)
  | lock (contents : Plan)
  | unlock (contents : Plan)
deriving DecidableEq, Repr

/-- The store engine (R178); `deadline` is the tick at which the longest time of the operation is over. -/
inductive Engine where
  | idle
  | busy (op : StoreOp) (deadline : Nat)
deriving DecidableEq, Repr

/-- The settings store (chapter 11): two areas and the engine. The working tables stand in the state itself. -/
structure Store where
  settingsArea : Area Settings
  planArea : Area PlanArea
  engine : Engine
deriving DecidableEq, Repr

/-- Where the part is (11.3): held by the RESET line, loading (after a RESTART or not, and at most until a tick), or
running. -/
inductive Phase where
  | held
  | loading (afterRestart : Bool) (deadline : Nat)
  | running
deriving DecidableEq, Repr, Inhabited

end Sys2Proof.Machine
end

