-- ==== Sys2Proof/Machine/Reset.lean ====
section
/-! DEFINITION. Machine/Reset.lean: the defaults of every table (R182) and the state each block starts in (R19, R37, R38,
R53, R60, R75, R99, R105, R113, R119, R148, R159, R176). -/

namespace Sys2Proof.Machine

/-! ## Units of the model's clock: one tick is 20 µs, one character time at 500 kbit/s (R2) -/

/-- Ticks in one millisecond. -/
def millisecond : Nat := 50
/-- Ticks in one tenth of a second. -/
def tenth : Nat := 5000
/-- Ticks in one second. -/
def second : Nat := 50000

/-- The longest time of start-up loading, 200 ms (R181). -/
def loadingTicks : Nat := 200 * millisecond

/-- The ring-silence interval before start-up loading has completed, 3 s (R17). -/
def ringSilenceDefault : Nat := 3 * second

/-! ## Table defaults (R182) -/

/-- The default ZONES entry (4.3). -/
def defaultZone : ZoneEntry :=
  { level := 0, coFull := 75, no2Full := 30, shift := 3, substitute := 500, floor := 0, trafficFactor := 16, decay := 20,
    up1 := 200, up2 := 450, up3 := 700, dn1 := 120, dn2 := 350, dn3 := 600,
    airOff := 0, airLow := 30, airMid := 60, airHigh := 100, dwell := 3, alarm := 800, lightForce := 700 }

/-- The default FANS entry (5.1). -/
def defaultFan : FanEntry :=
  { addr := 0, zone := 0, ratedFlow := 100, minSpeed := 25, rampStep := 20, stallRatio := 50, stallTime := 15,
    noLoadCurrent := 5, noLoadTime := 30, overMargin := 15, overTime := 10 }

/-- The default LANES entry (6.1). -/
def defaultLane : LaneEntry :=
  { addr := 0, zone := 0, inLevel := none, outLevel := none, passThrough := false, increment := 64, jumpLimit := 32 }

/-- The default SIGNS entry (6.1). -/
def defaultSign : SignEntry :=
  { addr := 0, sources := [.level 0], holdback := 0, fullThreshold := 0, arrowOpen := .ahead, arrowFull := .none,
    arrowFire := .upRamp }

/-- The default GROUPS entry (7.1). -/
def defaultGroup : GroupEntry :=
  { addr := 0, zone := 0, level := 0, triggers := [.ownMotion], base := 20, full := 100, holdTime := 120, fadeStep := 10,
    lampThreshold := 50, lampTime := 20, motionIncrement := 4 }

/-- The default RESPONSES table (8.2). -/
def defaultResponses : Vector ResponseEntry 10 :=
  #v[⟨.retry, .stop, 60, 3⟩, ⟨.latch, .stop, 60, 3⟩, ⟨.report, .stop, 60, 3⟩, ⟨.retry, .release, 120, 2⟩,
     ⟨.latch, .stop, 60, 3⟩, ⟨.report, .stop, 60, 3⟩, ⟨.report, .stop, 60, 3⟩, ⟨.report, .stop, 60, 3⟩,
     ⟨.report, .stop, 60, 3⟩, ⟨.report, .stop, 60, 3⟩]

/-- The default CONTROL table, field by field as the chapters give it. -/
def defaultControl : Control :=
  { hops := 64, ringSilence := 3, silenceGas := 5, silenceBay := 5, silenceLane := 5, silenceFan := 5,
    silenceLuminaire := 5, silenceSign := 5, returnTimeout := 500, resendInterval := 10, bayIncrement := 32,
    evaluationPeriod := 10, baySettle := 4, signInterval := 20, panel := 239, managers := [239],
    enables := Vector.replicate 10 true, groupAddresses := Vector.replicate 15 ⟨false, 1, 223, false⟩ }

/-- The default tables of the settings area (R182). -/
def defaultSettings : Settings :=
  { control := defaultControl
    zones := Vector.replicate 16 defaultZone
    gasSensors := Vector.replicate 64 ⟨0, 0⟩
    fans := Vector.replicate 48 defaultFan
    clusters := Vector.replicate 256 ⟨0, 0, 8⟩
    bays := Vector.replicate 2048 ⟨0, false⟩
    rows := Vector.replicate 64 ⟨0, 0⟩
    levels := Vector.replicate 8 ⟨800, 600, 180⟩
    lanes := Vector.replicate 32 defaultLane
    signs := Vector.replicate 48 defaultSign
    groups := Vector.replicate 96 defaultGroup
    responses := defaultResponses }

/-- The default plan (R153): every fan forward at full speed, at once. -/
def defaultPlan : Plan := Vector.replicate 48 ⟨.runForward, 100, 0⟩

/-! ## Blocks at the start -/

/-- The ring interface as it starts at `clock` (R19): queues and claims empty, counters 0, the ring-silence timer running
from 0. -/
def freshRing (ownAddress rate clock : Nat) (portB : PortB) : Ring :=
  { ownAddress := ownAddress, rate := rate, relayQueue := [], insertion := [], claims := [], runCount := 0, relayed := 0,
    badCheck := 0, hopExpiry := 0, relayFull := 0, ringSilent := false, silenceTimer := some (clock + ringSilenceDefault),
    portB := portB, nextEntry := 0 }

/-- A node map record of kind NONE (R37); also a record just set up, less its equipment (R22). -/
def freshNode : NodeRecord :=
  { equipment := none, liveness := .unheard, silenceTimer := none, baseline := .absent, sensorFault := false }

/-- A delivery record at reset (R38). -/
def freshDeliveryRecord : DeliveryRecord :=
  { desired := none, lastTaken := none, inFlight := none, attempts := 0, state := .idle, returnTimer := none,
    resendTimer := none }

/-- The proxy access at reset (R51). -/
def freshProxy : Proxy := { state := .idle, target := 0, op := 0, id := 0, value := 0, tag := 0, timer := none }

/-- Command delivery at reset (R38, R52). -/
def freshDelivery : Delivery :=
  { fans := Vector.replicate 48 freshDeliveryRecord, groups := Vector.replicate 96 freshDeliveryRecord,
    signs := Vector.replicate 48 freshDeliveryRecord, tagCounter := 0, proxy := freshProxy,
    noTake := Vector.replicate 224 false }

/-- A sensor record at reset (R53). -/
def freshSensor : SensorRecord := { co := none, no2 := none, lastStatus := none }

/-- A zone record at reset (R60). -/
def freshZone : ZoneRecord :=
  { evaluated := false, airIndex := 0, source := none, usable := 0, load := 0, trafficIndex := 0, demand := 0,
    stage := .off, dwell := 0, airflow := 0, shortfall := false, gasHigh := false }

/-- The air block at reset, its timer stopped (R73). -/
def freshAir : Air :=
  { sensors := Vector.replicate 64 freshSensor, zones := Vector.replicate 16 freshZone, evaluationTimer := none }

/-- A condition absent with its timer stopped. -/
def freshDeglitch : Deglitch := { timer := none, present := false }

/-- A fan record at reset (R75). -/
def freshFan : FanRecord :=
  { manualMode := false, manual := ⟨0, .forward⟩, commanded := ⟨0, .forward⟩, service := .inService, held := false,
    reported := none, stall := freshDeglitch, noLoad := freshDeglitch, overspeed := freshDeglitch, trip := false }

/-- A bay record at reset (R99): UNKNOWN. -/
def freshBay : BayRecord := { state := none, pending := none, timer := none, lastReported := none }

/-- A level record at reset (R104, R105, R117). -/
def freshLevel : LevelRecord :=
  { free := 0, arrivals := [], dropped := 0, aged := 0, reasons := ⟨false, false, false, false⟩ }

/-- A sign record at reset (R117). The computed setting is the model's choice until the first computation. -/
def freshSign : SignRecord :=
  { computed := ⟨.full, .none⟩, lastSent := none, timer := none, pending := false, out := false }

/-- The guidance block at reset (R117). -/
def freshGuide : Guide :=
  { bays := Vector.replicate 2048 freshBay, rowFree := Vector.replicate 64 0, levels := Vector.replicate 8 freshLevel,
    signs := Vector.replicate 48 freshSign, clusterFault := Vector.replicate 256 false }

/-- A group record at reset (R119), given its entry. -/
def freshGroup (e : GroupEntry) : GroupRecord :=
  { state := .base, causes := ⟨false, false, false⟩, holdTimer := none, target := e.base, output := none, out := false,
    reported := none, lamp := freshDeglitch }

/-- The lighting block at reset, its timer stopped (R131). -/
def freshLight (entries : Vector GroupEntry 96) : Light := { groups := entries.map freshGroup, stepTimer := none }

/-- The fault block at power-on and at the RESET line (R148). -/
def freshFaults : Faults :=
  { list := [], flags := Vector.replicate 10 false, alert := false, gasHigh := Vector.replicate 16 false,
    shortfall := Vector.replicate 16 false, risen := Vector.replicate 10 false, notice := .none, noticeNumber := 0 }

/-- The fire block at power-on and at the RESET line (R149, R159), with the default plan standing until loading. -/
def freshFire : Fire :=
  { latch := false, plan := defaultPlan, planLock := false, startTimers := Vector.replicate 48 .stopped, fireIn := false,
    fireHeld := false, keysw := false }

/-- The management block at every start (R165, R176). -/
def freshMgmt : Mgmt :=
  { queue := [], outgoing := [], cursor := ⟨0, 0, 0⟩, storeSender := none, proxySender := none, restartPending := false }

end Sys2Proof.Machine
end

