-- ==== Sys2Proof/Machine/State.lean ====
section
/-! DEFINITION. Machine/State.lean: the whole state of the part as plain data, block by block (00_scope.md, Block
overview), the reasons a step can stop, and the state after reset. -/

namespace Sys2Proof.Machine

/-- The state of the PK-60. The first four fields are the model's own: the commands waiting, the clock in 20 µs ticks,
the tick of the last start (the fault clock and the arrival times count from it), and the number of free choices drawn. -/
structure State where
  pending : List Instr
  clock : Nat
  epoch : Nat
  draws : Nat
  /-- Held by RESET, loading or running (11.3). -/
  phase : Phase
  /-- The ring interface (chapter 1). -/
  ring : Ring
  /-- The node map, indexed by address; place 0 names no node (R21). -/
  nodes : Vector NodeRecord 224
  /-- Command delivery (chapter 3). -/
  delivery : Delivery
  /-- The air block (chapter 4). -/
  air : Air
  /-- The fan block (chapter 5). -/
  fans : Vector FanRecord 48
  /-- The guidance block (chapter 6). -/
  guide : Guide
  /-- The lighting block (chapter 7). -/
  light : Light
  /-- The fault block (chapter 8). -/
  faults : Faults
  /-- The fire block with the working plan (chapter 9). -/
  fire : Fire
  /-- The management block (chapter 10). -/
  mgmt : Mgmt
  /-- The twelve working tables (11.1). -/
  tables : Settings
  /-- The two store areas and the store engine (chapter 11). -/
  store : Store
deriving DecidableEq, Repr

/-- Reasons for which a step stops with a fault. There is none: the manual gives every command of the table an effect, and
an event that finds nothing to do leaves the state as it is. -/
inductive Fault where
deriving DecidableEq, Repr

/-- Reasons for which a step has no meaning. -/
inductive Refusal where
  /-- Raised by `exec` alone, for a command that has no meaning yet. Safe: the run stops. No arm raises it now. -/
  | notModelled (mnemonic : String)
deriving DecidableEq, Repr

/-- The part right after power-on with all straps read as 0 and neither store area ever written: every block as its
chapter gives it for power-on, and start-up loading begun (R181). -/
def State.reset : State :=
  { pending := [], clock := 0, epoch := 0, draws := 0
    phase := .loading false loadingTicks
    ring := freshRing 224 0 0 .resting
    nodes := Vector.replicate 224 freshNode
    delivery := freshDelivery
    air := freshAir
    fans := Vector.replicate 48 freshFan
    guide := freshGuide
    light := freshLight defaultSettings.groups
    faults := freshFaults
    fire := freshFire
    mgmt := freshMgmt
    tables := defaultSettings
    store := { settingsArea := .bad, planArea := .bad, engine := .idle } }

end Sys2Proof.Machine
end

