-- ==== Sys2Proof/Machine/Ops.lean ====
section
/-! DEFINITION. Machine/Ops.lean: the operations every block shares: places of a vector, timers and times, hand-overs the
manual leaves in no order, bytes and the ring check, and the ring frame (1.1). -/

namespace Sys2Proof.Machine

/-! ## Capacities (00_scope.md, Capacities at a glance) -/

/-- Frames the relay queue holds (R9). -/
def relayCapacity : Nat := 8
/-- Frames the insertion queue holds (R10). -/
def insertionCapacity : Nat := 24
/-- Records the fault list holds (R134). -/
def faultCapacity : Nat := 64
/-- Entries an arrival list holds (R105). -/
def arrivalCapacity : Nat := 32
/-- Requests the request queue holds (R162). -/
def requestCapacity : Nat := 4
/-- The top of a 16-bit counter that saturates (R18, R105). -/
def counterTop : Nat := 65535
/-- The top of the fault clock (R134). -/
def faultClockTop : Nat := 4294967295
/-- The top of a zone's traffic load (R61). -/
def loadTop : Nat := 4095

/-! ## Places of a vector -/

/-- The element at `i`; the type's default where there is no such place. -/
def getAt {α : Type} {n : Nat} [Inhabited α] (v : Vector α n) (i : Nat) : α := v[i]?.getD default

/-- The vector with `a` at place `i`; the same vector where there is no such place. -/
def setAt {α : Type} {n : Nat} (v : Vector α n) (i : Nat) (a : α) : Vector α n := v.setIfInBounds i a

/-- The vector with `f` applied at place `i`. -/
def modAt {α : Type} {n : Nat} [Inhabited α] (v : Vector α n) (i : Nat) (f : α → α) : Vector α n :=
  setAt v i (f (getAt v i))

/-- One more, saturating at the top of a 16-bit counter (R18). -/
def bump (n : Nat) : Nat := if n < counterTop then n + 1 else n

/-- A value brought into `lo..hi` at the nearer end (R168). -/
def clamp (lo hi n : Nat) : Nat := if n < lo then lo else if hi < n then hi else n

/-! ## Time -/

/-- A timer started now with so many ticks to run. -/
def startTimer (s : State) (ticks : Nat) : Timer := some (s.clock + ticks)

/-- The timer runs and its time has come. -/
def dueAt (clock : Nat) (t : Timer) : Bool :=
  match t with
  | none => false
  | some e => e ≤ clock

/-- The time to expiry in 0.1 s (views of R93, R116, R130, R147, R152); the rounding is a free value. -/
def tenthsLeft (clock expiresAt : Nat) : Nat :=
  let left := expiresAt - clock
  left / tenth + (if left % tenth ≠ 0 ∧ Config.tenthsRoundUp (left % tenth) = true then 1 else 0)

/-- The fault clock: whole seconds since the last start, saturating (R134). -/
def faultClock (s : State) : Nat := min ((s.clock - s.epoch) / second) faultClockTop

/-- Tenths of a second since the last start, the unit of arrival times (R105). -/
def tenthsSinceStart (s : State) : Nat := (s.clock - s.epoch) / tenth

/-- Start-up loading has completed and RESET is not active. -/
def running (s : State) : Bool := s.phase = .running

/-! ## Doing something for each entry, and in no stated order -/

/-- `f` for each index below `n`, lowest first. -/
def forEach (n : Nat) (f : Nat → State → State) (s : State) : State := (List.range n).foldl (fun t i => f i t) s

/-- A choice among `n`, drawn from the free value. -/
def draw (s : State) (n : Nat) : Nat := Config.pick s.draws % n

/-- The hand-overs of the list, each once, in an order no rule fixes: each next one is drawn. -/
def inAnyOrder : List (State → State) → State → State
  | [], s => s
  | [f], s => f s
  | f :: g :: rest, s => go (rest.length + 2) (f :: g :: rest) s
where
  /-- `n` more hand-overs out of those left. -/
  go : Nat → List (State → State) → State → State
    | 0, _, s => s
    | n + 1, fs, s =>
      let k := draw s fs.length
      go n (fs.eraseIdx k) ((fs[k]?.getD id) { s with draws := s.draws + 1 })

/-! ## Bytes and the ring check (1.1) -/

/-- One byte. -/
def b8 (n : Nat) : Byte := BitVec.ofNat 8 n

/-- Two bytes, high byte first (R166). -/
def b16 (n : Nat) : List Byte := [b8 (n / 256), b8 n]

/-- Four bytes, high byte first (10.4). -/
def b32 (n : Nat) : List Byte := b16 (n / 65536) ++ b16 n

/-- The value of two bytes, high byte first. -/
def word (hi lo : Byte) : Nat := hi.toNat * 256 + lo.toNat

/-- One bit through the check register: generator x^16 + x^12 + x^5 + 1. -/
def checkBit (c : Check) : Check := if c.msb then (c <<< 1) ^^^ 0x1021#16 else c <<< 1

/-- One byte through the check register, most significant bit first. -/
def checkByte (c : Check) (b : Byte) : Check :=
  (List.range 8).foldl (fun c _ => checkBit c) (c ^^^ (b.setWidth 16 <<< 8))

/-- The check over some bytes, the register preset to all ones and nothing inverted at the end. -/
def checkOf (bs : List Byte) : Check := bs.foldl checkByte 0xFFFF#16

/-- The two check bytes, high byte first. -/
def checkBytes (bs : List Byte) : List Byte := b16 (checkOf bs).toNat

/-! ## The ring frame (1.1) -/

/-- Kind codes. -/
def kindReport : Nat := 1
/-- COMMAND. -/
def kindCommand : Nat := 2
/-- REQUEST. -/
def kindRequest : Nat := 3
/-- REPLY. -/
def kindReply : Nat := 4
/-- NOTICE. -/
def kindNotice : Nat := 5

/-- Mark code TAKEN. -/
def markTaken : Nat := 1
/-- Mark code REFUSED. -/
def markRefused : Nat := 2

/-- A frame's bytes, its check computed over the finished frame (R13). -/
def Frame.bytes (f : Frame) : List Byte :=
  let head := [b8 f.dest, b8 f.source, b8 f.kind, b8 f.hops, b8 f.tag, b8 f.mark, b8 f.payload.length] ++ f.payload
  head ++ checkBytes head

/-- The tests of R1 on a frame taken as ended: the frame's fields when it is good, `none` when it is rejected. -/
def checkFrame (bytes : List Byte) (framingError : Bool) : Option Frame :=
  match bytes with
  | dest :: source :: kind :: hops :: tag :: mark :: len :: rest =>
    let n := bytes.length
    let body := bytes.take (n - 2)
    if n < 9 ∨ 57 < n ∨ n ≠ 9 + len.toNat ∨ framingError = true ∨ bytes.drop (n - 2) ≠ checkBytes body
        ∨ dest.toNat = 0 ∨ source.toNat = 0 ∨ 240 ≤ source.toNat ∨ kind.toNat = 0 ∨ 5 < kind.toNat ∨ hops.toNat = 0
        ∨ 2 < mark.toNat then none
    else some
      { dest := dest.toNat, source := source.toNat, kind := kind.toNat, hops := hops.toNat, tag := tag.toNat,
        mark := mark.toNat, payload := rest.take len.toNat }
  | _ => none

/-- Character time in ticks: 80, 40, 20 and 20 µs (R2). -/
def charTicks (rate : Nat) : Nat :=
  match rate with
  | 0 => 4
  | 1 => 2
  | _ => 1

/-- Bit rate in kbit/s (R3). -/
def bitRate (rate : Nat) : Nat :=
  match rate with
  | 0 => 125
  | 1 => 250
  | _ => 500

end Sys2Proof.Machine
end

