-- ==== Sys2Proof/Machine/Queue.lean ====
section
/-! DEFINITION. Machine/Queue.lean: the insertion queue and the claims list (R10 to R12), with the frames a claim puts in
when it is given room, and the management block's replies (R163). -/

namespace Sys2Proof.Machine

/-! ## Delivery records and their addresses -/

/-- The delivery record of an actuator (R38). -/
def Delivery.record (d : Delivery) : Actuator → DeliveryRecord
  | .fan i => getAt d.fans i
  | .group i => getAt d.groups i
  | .sign i => getAt d.signs i

/-- Command delivery with the record of an actuator replaced. -/
def Delivery.setRecord (d : Delivery) (a : Actuator) (r : DeliveryRecord) : Delivery :=
  match a with
  | .fan i => { d with fans := setAt d.fans i r }
  | .group i => { d with groups := setAt d.groups i r }
  | .sign i => { d with signs := setAt d.signs i r }

/-- The delivery record of an actuator in a state. -/
def State.record (s : State) (a : Actuator) : DeliveryRecord := s.delivery.record a

/-- The state with the delivery record of an actuator replaced. -/
def State.setRecord (s : State) (a : Actuator) (r : DeliveryRecord) : State :=
  { s with delivery := s.delivery.setRecord a r }

/-- The node address that the actuator's entry names (R40). -/
def actuatorAddress (t : Settings) : Actuator → Nat
  | .fan i => (getAt t.fans i).addr
  | .group i => (getAt t.groups i).addr
  | .sign i => (getAt t.signs i).addr

/-! ## Order, entry and room (R10, R11) -/

/-- `f` stands before `g`: by class, and within a class by time of entry (R10). -/
def QFrame.before (f g : QFrame) : Bool :=
  (f.draft.urgent && !g.draft.urgent) || (f.draft.urgent == g.draft.urgent && decide (f.entry < g.entry))

/-- A frame put at its place (R10). -/
def insertFrame (f : QFrame) : List QFrame → List QFrame
  | [] => [f]
  | g :: rest => if f.before g then f :: g :: rest else g :: insertFrame f rest

/-- A frame enters the insertion queue, the moment being its time of entry (R10). -/
def enter (d : Draft) (s : State) : State :=
  { s with ring := { s.ring with
      insertion := insertFrame ⟨d, s.ring.nextEntry⟩ s.ring.insertion, nextEntry := s.ring.nextEntry + 1 } }

/-- An offer would be accepted: fewer than 24 frames and no claim waiting (R11). -/
def hasRoom (s : State) : Bool := s.ring.insertion.length < insertionCapacity && s.ring.claims.isEmpty

/-- A claim joins the tail of the claims list (R11). -/
def claim (c : Claim) (s : State) : State := { s with ring := { s.ring with claims := s.ring.claims ++ [c] } }

/-- The frame enters if the offer is accepted, and otherwise the claim waits (R11). -/
def offer (c : Claim) (d : Draft) (s : State) : State := if hasRoom s then enter d s else claim c s

/-! ## The frames of the four originating blocks (1.6) -/

/-- The command frame of a record (R40). -/
def recordDraft (s : State) (a : Actuator) (d : Desired) : Draft :=
  { urgent := d.urgent, dest := actuatorAddress s.tables a, tag := 0, body := .command a d.setting }

/-- A reply frame (R163). -/
def replyDraft (r : Reply) : Draft := { urgent := false, dest := r.dest, tag := r.tag, body := .reply r.payload }

/-- The notice frame: destination and number read when it is built (R146). -/
def noticeDraft (s : State) : Draft :=
  { urgent := true, dest := s.tables.control.panel, tag := s.faults.noticeNumber, body := .notice }

/-- The proxy frame (R51). -/
def proxyDraft (p : Proxy) : Draft := { urgent := false, dest := p.target, tag := 0, body := .proxy p.op p.id p.value }

/-- The group command to a group address (R16). -/
def groupDraft (g : Nat) : Draft := { urgent := true, dest := g, tag := 0, body := .groupFull g }

/-! ## Replies (R163) -/

/-- The outgoing list is offered from its head: each accepted reply leaves it, and the first refused one claims. -/
def offerOutgoing : List Reply → State → State
  | [], s => { s with mgmt := { s.mgmt with outgoing := [] } }
  | r :: rs, s =>
    if hasRoom s then offerOutgoing rs (enter (replyDraft r) s)
    else claim .reply { s with mgmt := { s.mgmt with outgoing := r :: rs } }

/-- A built reply is offered, or joins the outgoing list while that list is not empty or the proxy frame claims. -/
def sendReply (r : Reply) (s : State) : State :=
  if s.mgmt.outgoing ≠ [] ∨ s.delivery.proxy.state = .waitingRoom then
    { s with mgmt := { s.mgmt with outgoing := s.mgmt.outgoing ++ [r] } }
  else offerOutgoing [r] s

/-! ## Room given to a claim (R11) -/

/-- The frame a waiting record would build now: none without a desired setting or without a node address (R40). -/
def claimedDraft (s : State) (a : Actuator) : Option Draft :=
  match (s.record a).desired with
  | none => none
  | some d => if actuatorAddress s.tables a = 0 then none else some (recordDraft s a d)

/-- The freed place goes to the first claim that has a frame to put in; a record without one is IDLE and passes it on. -/
def giveRoomTo : List Claim → State → State
  | [], s => { s with ring := { s.ring with claims := [] } }
  | c :: cs, s0 =>
    let s : State := { s0 with ring := { s0.ring with claims := cs } }
    match c with
    | .record a =>
      match claimedDraft s a with
      | some d => enter d (s.setRecord a { s.record a with state := .queued })
      | none => giveRoomTo cs (s.setRecord a { s.record a with state := .idle })
    | .reply =>
      match s.mgmt.outgoing with
      | r :: rs => offerOutgoing rs (enter (replyDraft r) s)
      | [] => giveRoomTo cs s
    | .proxy =>
      let t := enter (proxyDraft s.delivery.proxy)
        { s with delivery := { s.delivery with proxy := { s.delivery.proxy with state := .queued } } }
      if t.mgmt.outgoing = [] then t else offerOutgoing t.mgmt.outgoing t
    | .notice => enter (noticeDraft s) { s with faults := { s.faults with notice := .queued } }
    | .group g => enter (groupDraft g) s

/-- A frame has left the insertion queue: its place goes at once to the claim at the head (R11). -/
def giveRoom (s : State) : State :=
  if s.ring.insertion.length < insertionCapacity then giveRoomTo s.ring.claims s else s

/-! ## The frame of one record in the queue -/

/-- The frame is a command of this actuator's record. -/
def QFrame.isCommandOf (a : Actuator) (f : QFrame) : Bool :=
  match f.draft.body with
  | .command b _ => decide (b = a)
  | _ => false

/-- The queue with the record's frame carrying a new setting in place; a NORMAL frame given an URGENT setting moves to the
place its time of entry gives it among the URGENT frames, and an URGENT frame stays URGENT (R12). -/
def rewriteQueue (a : Actuator) (x : Setting) (urgent : Bool) (q : List QFrame) : List QFrame :=
  match q.find? (QFrame.isCommandOf a) with
  | none => q
  | some f =>
    if urgent && !f.draft.urgent then
      insertFrame { f with draft := { f.draft with urgent := true, body := .command a x } }
        (q.filter fun g => !g.isCommandOf a)
    else q.map fun g => if g.isCommandOf a then { g with draft := { g.draft with body := .command a x } } else g

/-- The queue with the record's frame sent to another address, in place (R50). -/
def readdressQueue (a : Actuator) (dest : Nat) (q : List QFrame) : List QFrame :=
  q.map fun g => if g.isCommandOf a then { g with draft := { g.draft with dest := dest } } else g

end Sys2Proof.Machine
end

