-- ==== Sys2Proof/Machine/Delivery.lean ====
section
/-! DEFINITION. Machine/Delivery.lean: setting, offering, withdrawing and starting the frames of the delivery records
(R38 to R43, R48, R49), and the tag counter (R43). Failed attempts and takings, which reach the fault block, are in
Machine/Service.lean. -/

namespace Sys2Proof.Machine

/-- Every actuator, in the order the records are numbered (R38). -/
def allActuators : List Actuator :=
  (List.range 48).map .fan ++ (List.range 96).map .group ++ (List.range 48).map .sign

/-- A record builds a frame from its desired setting and offers it: QUEUED, or WAITING_ROOM with its claim (R42). Without a
node address no frame is built and the record is IDLE (R40). -/
def offerRecord (a : Actuator) (s : State) : State :=
  let r := s.record a
  match claimedDraft s a with
  | none => s.setRecord a { r with state := .idle }
  | some d =>
    if hasRoom s then enter d (s.setRecord a { r with state := .queued })
    else claim (.record a) (s.setRecord a { r with state := .waitingRoom })

/-- A job sets a desired setting (R41). Its class is URGENT while fire mode is active (R39). -/
def setDesired (a : Actuator) (x : Setting) (s : State) : State :=
  let urgent := s.fire.latch
  let r := { s.record a with desired := some ⟨x, urgent⟩ }
  let t := s.setRecord a r
  match r.state with
  | .idle => if r.lastTaken = some x then t else offerRecord a t
  | .queued => { t with ring := { t.ring with insertion := rewriteQueue a x urgent t.ring.insertion } }
  | .inFlight | .resendWait | .waitingRoom => t

/-- A job withdraws its desired setting (R49). -/
def withdraw (a : Actuator) (s : State) : State :=
  let r := { s.record a with desired := none }
  match r.state with
  | .queued =>
    let t := s.setRecord a { r with state := .idle }
    giveRoom { t with ring := { t.ring with insertion := t.ring.insertion.filter fun g => !g.isCommandOf a } }
  | .waitingRoom =>
    let t := s.setRecord a { r with state := .idle }
    { t with ring := { t.ring with claims := t.ring.claims.filter (· ≠ Claim.record a) } }
  | .resendWait => s.setRecord a { r with state := .idle, attempts := 0, resendTimer := none }
  | .inFlight | .idle => s.setRecord a r

/-! ## Tags (R43) -/

/-- A frame of this record or of the proxy access is in flight with this tag. -/
def tagInFlight (d : Delivery) (tag : Nat) : Bool :=
  (allActuators.any fun a => (d.record a).inFlight.any fun f => f.tag = tag)
    || (decide (d.proxy.state = .inFlight) && decide (d.proxy.tag = tag))

/-- The tag the next frame takes: the counter's value, or the next one that no frame in flight holds. -/
def freeTag (d : Delivery) : Nat :=
  (((List.range 256).map fun k => (d.tagCounter + k) % 256).find? fun t => !tagInFlight d t).getD d.tagCounter

/-- A record's frame starts on port B: IN_FLIGHT, tag and destination noted, return timer started (R43). -/
def startRecord (a : Actuator) (x : Setting) (dest tag : Nat) (s : State) : State :=
  let t := s.setRecord a
    { s.record a with
      state := .inFlight, inFlight := some ⟨x, tag, dest⟩
      returnTimer := startTimer s (s.tables.control.returnTimeout * millisecond) }
  { t with delivery := { t.delivery with tagCounter := (tag + 1) % 256 } }

/-- The proxy frame starts on port B (R51). -/
def startProxy (tag : Nat) (s : State) : State :=
  { s with delivery := { s.delivery with
      tagCounter := (tag + 1) % 256
      proxy := { s.delivery.proxy with
        state := .inFlight, tag := tag, timer := startTimer s (s.tables.control.returnTimeout * millisecond) } } }

end Sys2Proof.Machine
end

