-- ==== Sys2Proof/Machine/Flags.lean ====
section
/-! DEFINITION. Machine/Flags.lean: the ten summary flags, the ALERT line and the pending notice (R143 to R146), and the
codes and categories of the fault classes (8.1). -/

namespace Sys2Proof.Machine

/-- Flag codes (8.8). -/
def flagCode : Flag → Nat
  | .fire => 0 | .gasHigh => 1 | .shortfall => 2 | .fan => 3 | .sensor => 4
  | .lamp => 5 | .node => 6 | .ring => 7 | .store => 8 | .listFull => 9

/-- The flag of a code. -/
def flagOfCode : Nat → Option Flag
  | 0 => some .fire | 1 => some .gasHigh | 2 => some .shortfall | 3 => some .fan | 4 => some .sensor
  | 5 => some .lamp | 6 => some .node | 7 => some .ring | 8 => some .store | 9 => some .listFull
  | _ => none

/-- Class codes (8.1). -/
def classCode : FaultClass → Nat
  | .fanStall => 0 | .fanNoLoad => 1 | .fanOverspeed => 2 | .fanDriveTrip => 3 | .gasSensorFault => 4
  | .baySensorFault => 5 | .lampOpen => 6 | .nodeSilent => 7 | .actuatorNoTake => 8 | .ringSilent => 9

/-- The flag of a class's category (8.1). -/
def categoryFlag : FaultClass → Flag
  | .fanStall | .fanNoLoad | .fanOverspeed | .fanDriveTrip => .fan
  | .gasSensorFault | .baySensorFault => .sensor
  | .lampOpen => .lamp
  | .nodeSilent | .actuatorNoTake => .node
  | .ringSilent => .ring

/-- A class is in the category of a CLEAR FAULTS code: 0 FAN, 1 SENSOR, 2 LAMP, 3 NODE, 4 RING, 5 ALL (R160). -/
def inCategory (code : Nat) (c : FaultClass) : Bool :=
  code = 5 || flagCode (categoryFlag c) = code + 3

/-- A flag is set. -/
def flagSet (s : State) (f : Flag) : Bool := getAt s.faults.flags (flagCode f)

/-- The CONTROL enable of a flag (R145). -/
def flagEnabled (s : State) (f : Flag) : Bool := getAt s.tables.control.enables (flagCode f)

/-- At least one flag whose enable is set is set (R145). -/
def anyEnabledFlag (s : State) : Bool :=
  (List.range 10).any fun i => getAt s.faults.flags i && getAt s.tables.control.enables i

/-- The ALERT line is judged (R145). -/
def judgeAlert (s : State) : State := { s with faults := { s.faults with alert := anyEnabledFlag s } }

/-- The pending notice, when it is NONE, is built and offered (R146). -/
def offerNotice (s : State) : State :=
  match s.faults.notice with
  | .none =>
    if hasRoom s then enter (noticeDraft s) { s with faults := { s.faults with notice := .queued } }
    else claim .notice { s with faults := { s.faults with notice := .waitingRoom } }
  | .queued | .waitingRoom => s

/-- An enabled flag has risen: it joins the risen set, and the notice is built, added to or left waiting (R146). -/
def noticeRise (f : Flag) (s : State) : State :=
  offerNotice { s with faults := { s.faults with risen := setAt s.faults.risen (flagCode f) true } }

/-- A flag is set. Setting a set flag is no rise (R143). -/
def raiseFlag (f : Flag) (s : State) : State :=
  if flagSet s f then s
  else
    let t := { s with faults := { s.faults with flags := setAt s.faults.flags (flagCode f) true } }
    judgeAlert (if flagEnabled t f then noticeRise f t else t)

/-- The contents of a notice as it starts: the risen flags, then the flags set and enabled at that moment (R12, R146). Each
set is written in rising code order, whatever the order in which its flags rose (DESIGN CHOICE, log 40). -/
def noticePayload (s : State) : List Byte :=
  let risen := (List.range 10).filter fun i => getAt s.faults.risen i
  let standing := (List.range 10).filter fun i => getAt s.faults.flags i && getAt s.tables.control.enables i
  b8 risen.length :: risen.map b8 ++ b8 standing.length :: standing.map b8

/-- The notice starts on port B (R146). -/
def startNotice (s : State) : State :=
  { s with faults := { s.faults with
      risen := Vector.replicate 10 false, notice := .none, noticeNumber := (s.faults.noticeNumber + 1) % 256 } }

/-- The standing cause of a flag (R143, R144). -/
def standingCause (s : State) (f : Flag) : Bool :=
  match f with
  | .fire => s.fire.latch
  | .gasHigh => (List.range 16).any fun z => getAt s.faults.gasHigh z
  | .shortfall => (List.range 16).any fun z => getAt s.faults.shortfall z
  | .fan | .sensor | .lamp | .node | .ring =>
    s.faults.list.any fun r => decide (categoryFlag r.cls = f) && decide (r.state ≠ .ended)
  | .store | .listFull => false

/-- One named flag is acknowledged: it stays set if its cause stands, and is cleared otherwise (R144). -/
def ackFlag (s : State) (f : Flag) : State :=
  if standingCause s f then s
  else { s with faults := { s.faults with flags := setAt s.faults.flags (flagCode f) false } }

end Sys2Proof.Machine
end

