-- ==== Sys2Proof/Machine/FaultList.lean ====
section
/-! DEFINITION. Machine/FaultList.lean: the fault list itself: records of a pair, ends of conditions, room for a new record,
and which records hold an address out of service (R132 to R140). -/

namespace Sys2Proof.Machine

/-- The record is that of this class and address. -/
def FaultRecord.isOf (c : FaultClass) (addr : Nat) (r : FaultRecord) : Bool := decide (r.cls = c) && decide (r.addr = addr)

/-- The record of a pair, if the list has one (R134). -/
def findRecord (s : State) (c : FaultClass) (addr : Nat) : Option FaultRecord := s.faults.list.find? (·.isOf c addr)

/-- The RESPONSES entry of a class (8.2). -/
def response (s : State) (c : FaultClass) : ResponseEntry := getAt s.tables.responses (classCode c)

/-- The classes that fire mode applies as REPORT (R142). -/
def fireReports (c : FaultClass) : Bool :=
  match c with
  | .fanStall | .fanNoLoad | .fanOverspeed => true
  | _ => false

/-- The mode a presence of the class is applied with (R135, R142). -/
def modeOf (s : State) (c : FaultClass) : Mode :=
  let m := (response s c).mode
  if s.fire.latch && fireReports c && (m = .latch || m = .retry) then .report else m

/-- Replace the fault list. -/
def setList (l : List FaultRecord) (s : State) : State := { s with faults := { s.faults with list := l } }

/-- A condition of a pair has ended: the record's mark becomes no, and an ACTIVE record goes to ENDED. An end for a pair
with no record is ignored (R132, R137). -/
def endCondition (c : FaultClass) (addr : Nat) (s : State) : State :=
  setList (s.faults.list.map fun r =>
    if r.isOf c addr then
      { r with present := false, state := if r.state = .active then .ended else r.state }
    else r) s

/-- The timer of a record that goes OUT now (R133). -/
def retryTimer (s : State) (c : FaultClass) : Timer := startTimer s ((response s c).interval * second)

/-- The record a presence creates under a mode other than IGNORE (R135). -/
def newRecord (s : State) (c : FaultClass) (addr : Nat) (m : Mode) : FaultRecord :=
  { cls := c, addr := addr
    state := match m with | .latch => .latched | .retry => .out | .report | .ignore => .active
    present := true, retries := if m = .retry then 1 else 0, occurrences := 1
    firstTime := faultClock s, lastTime := faultClock s
    timer := if m = .retry then retryTimer s c else none, overridden := false }

/-- A record with a presence recorded in it under a mode other than IGNORE (R136). -/
def recordAgain (s : State) (m : Mode) (r : FaultRecord) : FaultRecord :=
  let seen := { r with occurrences := min 255 (r.occurrences + 1), lastTime := faultClock s, present := true }
  match r.state, m with
  | .latched, _ => seen
  | .ended, .report => { seen with state := .active }
  | .out, .report => seen
  | .ended, .latch | .out, .latch => { seen with state := .latched, timer := none }
  | .ended, .retry | .out, .retry =>
    if r.retries < (response s r.cls).limit then
      { seen with state := .out, retries := r.retries + 1, timer := retryTimer s r.cls }
    else { seen with state := .latched, timer := none }
  | .active, _ | _, .ignore => r

/-- The list less its oldest record in a state, if it has one (R139). -/
def dropOldest (st : RecordState) (l : List FaultRecord) : Option (List FaultRecord) :=
  (l.findIdx? fun r => r.state = st).map l.eraseIdx

/-- The list with room for one more record: the list itself below 64 records, or less its oldest ENDED, or else its oldest
ACTIVE record; none when all are OUT or LATCHED (R139). -/
def makeRoom (l : List FaultRecord) : Option (List FaultRecord) :=
  if l.length < faultCapacity then some l
  else match dropOldest .ended l with
    | some k => some k
    | none => dropOldest .active l

/-- The record holds its address's equipment out of service (R140). -/
def FaultRecord.holdsOut (r : FaultRecord) : Bool :=
  (decide (r.state = .out) || decide (r.state = .latched)) && !r.overridden

/-- The records that hold an address out. -/
def holding (s : State) (addr : Nat) : List FaultRecord := s.faults.list.filter fun r => decide (r.addr = addr) && r.holdsOut

/-- The service state of an address, with the action a fan there takes: STOP if any record holding it out has a class whose
action is STOP, and RELEASE otherwise (R140). Address 0 names no equipment. -/
def serviceOf (s : State) (addr : Nat) : Service :=
  let hs := holding s addr
  if addr = 0 || hs.isEmpty then .inService
  else if hs.any fun r => (response s r.cls).action = .stop then .out .stop else .out .release

/-- The address is out of service. -/
def outOfService (s : State) (addr : Nat) : Bool := serviceOf s addr ≠ .inService

end Sys2Proof.Machine
end

