-- ==== Sys2Proof/Machine/Fans.lean ====
section
/-! DEFINITION. Machine/Fans.lean: setting one fan, its service state, its plan hold, and its drive report tests
(R80 to R92). The allocation of a zone is in Machine/Ventilation.lean. -/

namespace Sys2Proof.Machine

/-- A fan's record. -/
def fan (s : State) (i : Nat) : FanRecord := getAt s.fans i

/-- The state with a fan's record changed. -/
def modFan (i : Nat) (f : FanRecord → FanRecord) (s : State) : State := { s with fans := modAt s.fans i f }

/-- The class of a deglitched fan condition. -/
def testClass : FanTest → FaultClass
  | .stall => .fanStall
  | .noLoad => .fanNoLoad
  | .overspeed => .fanOverspeed

/-- A fan's deglitch state for one test. -/
def FanRecord.test (r : FanRecord) : FanTest → Deglitch
  | .stall => r.stall
  | .noLoad => r.noLoad
  | .overspeed => r.overspeed

/-- A fan record with the deglitch state of one test replaced. -/
def FanRecord.setTest (r : FanRecord) (t : FanTest) (d : Deglitch) : FanRecord :=
  match t with
  | .stall => { r with stall := d }
  | .noLoad => { r with noLoad := d }
  | .overspeed => { r with overspeed := d }

/-- One test's condition ends and its timer stops; the end of a present condition is handed on with the address (R91). -/
def clearTest (addr i : Nat) (t : FanTest) (s : State) : State :=
  let was := ((fan s i).test t).present
  let u := modFan i (fun r => r.setTest t freshDeglitch) s
  if was then endCondition (testClass t) addr u else u

/-- The stall, no-load and overspeed conditions end and their timers stop (R91). -/
def clearTests (addr i : Nat) (s : State) : State :=
  clearTest addr i .overspeed (clearTest addr i .noLoad (clearTest addr i .stall s))

/-- The node address of a fan's entry. -/
def fanAddress (s : State) (i : Nat) : Nat := (getAt s.tables.fans i).addr

/-- The fan block sets a fan: the setting becomes the commanded setting and the desired setting of its delivery record, and
a commanded speed of 0 ends the three tested conditions (R41, R91). -/
def setFan (i : Nat) (x : FanSetting) (s : State) : State :=
  let t := modFan i (fun r => { r with commanded := x }) s
  setDesired (.fan i) (.fan x) (if x.speed = 0 then clearTests (fanAddress t i) i t else t)

/-- A stop: speed 0 with the commanded direction (R79, R82). -/
def stopFan (i : Nat) (s : State) : State := setFan i ⟨0, (fan s i).commanded.direction⟩ s

/-- A release: the desired setting is withdrawn and the commanded speed becomes 0 (R82). -/
def releaseFan (i : Nat) (s : State) : State :=
  withdraw (.fan i) (modFan i (fun r => { r with commanded := { r.commanded with speed := 0 } }) s)

/-- What an action does to a fan that it holds out and the plan does not hold (R82). -/
def applyAction (i : Nat) (a : Action) (s : State) : State :=
  match a with
  | .stop => stopFan i s
  | .release => releaseFan i s

/-- The fan's plan entry holds it in fire mode (R84). -/
def planHolds (s : State) (i : Nat) : Bool := (getAt s.fire.plan i).action ≠ .leave

/-- The fan is under the plan: held, or about to be held by the fire entry under way. The override of the fault block and the
plan hold may reach a fan in either order, and the fan is under the plan whichever comes first (R154). -/
def underPlan (s : State) (i : Nat) : Bool := (fan s i).held || (s.fire.latch && planHolds s i)

/-- A fan's service state or action has changed (R82, R83, R91, R154). A fan under the plan takes it into its record, and is
set, stopped or released by the plan's hold and its end alone. That this is so too for a changed action of a fan whose hold
is still to come in the same fire entry is read from R154 and R155 (DEDUCED, log 37). That a stop or a manual setting is set
at once before the first evaluation too is the model's choice (DESIGN CHOICE, log 38). -/
def fanService (i : Nat) (new : Service) (s : State) : State :=
  let old := fan s i
  let t := modFan i (fun r => { r with service := new }) s
  match new with
  | .out a =>
    let u := if old.service = .inService then clearTests (fanAddress t i) i t else t
    if underPlan s i then u else applyAction i a u
  | .inService => if !underPlan s i && old.manualMode then setFan i old.manual t else t

/-! ## The fire plan (R84, R155) -/

/-- The plan setting of a fan: plan speed and direction, or 0 with the commanded direction for STOP (R155). -/
def planSetting (s : State) (i : Nat) : FanSetting :=
  let e := getAt s.fire.plan i
  match e.action with
  | .runForward => ⟨e.speed, .forward⟩
  | .runReverse => ⟨e.speed, .reverse⟩
  | .stop | .leave => ⟨0, (fan s i).commanded.direction⟩

/-- The plan setting is set at once (R84). -/
def setPlanSetting (i : Nat) (s : State) : State := setFan i (planSetting s i) s

/-- A fan is held by the plan at fire entry and its start timer starts; a delay of 0 expires at once (R154, R155). -/
def holdFan (i : Nat) (s : State) : State :=
  if planHolds s i then
    let t := modFan i (fun r => { r with held := true }) s
    let delay := (getAt s.fire.plan i).delay
    let timer := if delay = 0 then StartTimer.expired else .running (s.clock + delay * second)
    let u := { t with fire := { t.fire with startTimers := setAt t.fire.startTimers i timer } }
    if delay = 0 then setPlanSetting i u else u
  else s

/-- A fan's plan hold ends: an out-of-service fan is stopped or released, a MANUAL fan takes its manual setting, and an
AUTO fan keeps its commanded setting (R84). -/
def unholdFan (i : Nat) (s : State) : State :=
  let t := modFan i (fun r => { r with held := false }) s
  match (fan t i).service with
  | .out a => applyAction i a t
  | .inService => if (fan t i).manualMode then setFan i (fan t i).manual t else t

/-! ## Drive reports (R85 to R90) -/

/-- The reference speed: the speed of the last taken setting (R85). -/
def referenceSpeed (s : State) (i : Nat) : Option Nat :=
  match (s.record (.fan i)).lastTaken with
  | some (.fan x) => some x.speed
  | _ => none

/-- One test at a report, given the reference speed (R87, R88, R89). -/
def testHolds (e : FanEntry) (ref : Nat) (r : DriveReport) : FanTest → Bool
  | .stall => decide (20 ≤ ref) && decide (r.speed * 100 < ref * e.stallRatio)
  | .noLoad => decide (r.current < e.noLoadCurrent)
  | .overspeed => decide (ref + e.overMargin < r.speed)

/-- The deglitch time of a test in seconds (R86). -/
def testTime (e : FanEntry) : FanTest → Nat
  | .stall => e.stallTime
  | .noLoad => e.noLoadTime
  | .overspeed => e.overTime

/-- One deglitch step at a tested report (R86): the new state, and whether a present condition ends. -/
def deglitchStep (start : Timer) (holds : Bool) (d : Deglitch) : Deglitch × Bool :=
  match d.present, holds with
  | true, true => (d, false)
  | true, false => ({ timer := none, present := false }, true)
  | false, false => ({ d with timer := none }, false)
  | false, true => (if d.timer.isSome then d else { d with timer := start }, false)

/-- The three deglitched tests are made at this moment, with this reference speed (R85). Where the commanded speed is above 0
and the last taken speed is 0, R85's three conditions hold and the tests are made with a reference speed of 0, although R88
calls it above 0 (DESIGN CHOICE, log 39). -/
def testsMade (s : State) (i : Nat) : Option Nat :=
  if (fan s i).service = .inService ∧ 0 < (fan s i).commanded.speed then referenceSpeed s i else none

/-- One deglitched test of a report: the record is brought up to date, and the end to hand on is listed (R85, R86). -/
def applyTest (i : Nat) (r : DriveReport) (ref : Nat) (t : FanTest) (p : State × List (State → State)) :
    State × List (State → State) :=
  let s := p.1
  let e := getAt s.tables.fans i
  let d := deglitchStep (startTimer s (testTime e t * second)) (testHolds e ref r t) ((fan s i).test t)
  let u := modFan i (fun x => x.setTest t d.1) s
  if d.2 then (u, endCondition (testClass t) e.addr :: p.2) else (u, p.2)

/-- The three timers of a fan stop (R85, R92). -/
def stopTestTimers (i : Nat) (s : State) : State :=
  modFan i (fun r => { r with
    stall := { r.stall with timer := none }, noLoad := { r.noLoad with timer := none },
    overspeed := { r.overspeed with timer := none } }) s

end Sys2Proof.Machine
end

