-- ==== Sys2Proof/Machine/Lighting.lean ====
section
/-! DEFINITION. Machine/Lighting.lean: the luminaire groups: states, causes and presence (R120 to R122), the light step
(R124), lamp supervision (R125 to R127) and service (R128). -/

namespace Sys2Proof.Machine

/-- A group's record. -/
def group (s : State) (i : Nat) : GroupRecord := getAt s.light.groups i

/-- The state with a group's record changed. -/
def modGroup (i : Nat) (f : GroupRecord → GroupRecord) (s : State) : State :=
  { s with light := { s.light with groups := modAt s.light.groups i f } }

/-- A group's entry. -/
def groupEntry (s : State) (i : Nat) : GroupEntry := getAt s.tables.groups i

/-- Any forced cause stands (R119). -/
def Causes.any (c : Causes) : Bool := c.fire || c.air || c.shortfall

/-- The target level of a state: full in HOLD and FORCED, base in BASE (R123). -/
def targetOf (e : GroupEntry) : GroupState → Nat
  | .base => e.base
  | .hold | .forced => e.full

/-- A group record in a state, its target following (R119, R123). -/
def GroupRecord.go (r : GroupRecord) (e : GroupEntry) (st : GroupState) : GroupRecord :=
  { r with state := st, target := targetOf e st }

/-- The causes of a group are set: FORCED when the set becomes non-empty, HOLD or BASE by the hold timer when it becomes
empty, and no change of state otherwise (R122). -/
def setCauses (i : Nat) (c : Causes) (s : State) : State :=
  modGroup i (fun r =>
    let t := { r with causes := c }
    if !r.causes.any && c.any then t.go (groupEntry s i) .forced
    else if r.causes.any && !c.any then t.go (groupEntry s i) (if r.holdTimer.isSome then .hold else .base)
    else t) s

/-- A presence event reaches a group (R120). -/
def presenceEvent (i : Nat) (s : State) : State :=
  modGroup i (fun r =>
    let t := { r with holdTimer := startTimer s ((groupEntry s i).holdTime * second) }
    match r.state with
    | .base | .hold => t.go (groupEntry s i) .hold
    | .forced => t) s

/-- A vehicle event is a presence event for every group that lists the trigger (R121). -/
def triggerGroups (x : Trigger) (s : State) : State :=
  forEach 96 (fun i t => if x ∈ (groupEntry t i).triggers then presenceEvent i t else t) s

/-- The hold timer of a group has expired: HOLD goes to BASE, FORCED stays (R120). -/
def holdExpired (i : Nat) (s : State) : State :=
  modGroup i (fun r =>
    let t := { r with holdTimer := none }
    match r.state with
    | .hold | .base => t.go (groupEntry s i) .base
    | .forced => t) s

/-- The SHORTFALL cause of every group of a zone follows the zone's flag (R122). -/
def lightShortfall (z : Nat) (s : State) : State :=
  forEach 96 (fun i t =>
    if (groupEntry t i).zone = z then
      setCauses i { (group t i).causes with shortfall := (getAt t.air.zones z).shortfall } t
    else t) s

/-- The zone's air index is at or above its light force index, and the zone has been evaluated (R122). At a GROUPS write that
names another zone, the light force index is that of the ZONES entry as it then stands (DESIGN CHOICE, log 41). -/
def airForces (s : State) (z : Nat) : Bool :=
  (getAt s.air.zones z).evaluated && decide ((getAt s.tables.zones z).lightForce ≤ (getAt s.air.zones z).airIndex)

/-- The AIR cause of every group of a zone is judged from the zone's new air index (R122). -/
def lightAir (z : Nat) (s : State) : State :=
  forEach 96 (fun i t =>
    if (groupEntry t i).zone = z then setCauses i { (group t i).causes with air := airForces t z } t else t) s

/-- Both zone causes of one group are judged from its zone's record (R118, R122), as one change of the set: when one goes and
the other comes, the set does not pass through empty (DESIGN CHOICE, log 44). -/
def judgeGroupZone (i : Nat) (s : State) : State :=
  let z := (groupEntry s i).zone
  setCauses i { (group s i).causes with air := airForces s z, shortfall := (getAt s.air.zones z).shortfall } s

/-- Every group gains or loses FIRE (R122, R129). -/
def lightFire (on : Bool) (s : State) : State :=
  forEach 96 (fun i t => setCauses i { (group t i).causes with fire := on } t) s

/-- The output a light step moves a group to (R124). -/
def stepOutput (e : GroupEntry) (r : GroupRecord) (target : Nat) : Nat :=
  match r.output with
  | none => target
  | some o =>
    if r.state = .forced then e.full
    else if o ≤ target + e.fadeStep ∧ target ≤ o + e.fadeStep then target
    else if o < target then o + e.fadeStep
    else o - e.fadeStep

/-- One group at a light step: the target is taken, the output moves, and a new output is set (R123, R124). -/
def stepGroup (i : Nat) (s : State) : State :=
  let e := groupEntry s i
  let r := group s i
  let target := targetOf e r.state
  let o := stepOutput e r target
  let t := modGroup i (fun r => { r with target := target, output := some o }) s
  if r.output = some o then t else setDesired (.group i) (.luminaire o) t

/-! ## Lamp supervision (R125 to R127) -/

/-- The LAMP_OPEN condition of a group ends and its timer stops (R126, R127). -/
def clearLamp (addr i : Nat) (s : State) : State :=
  let was := (group s i).lamp.present
  let t := modGroup i (fun r => { r with lamp := freshDeglitch }) s
  if was then endCondition .lampOpen addr t else t

/-- A driver report is stored, and tested for LAMP_OPEN if the group is in service (R125). -/
def lampReport (i : Nat) (x : LampReport) (s : State) : State :=
  let e := groupEntry s i
  let t := modGroup i (fun r => { r with reported := some x }) s
  if (group t i).out then t
  else
    let holds := decide (0 < x.output) && decide (x.current < e.lampThreshold)
    let d := deglitchStep (startTimer t (e.lampTime * second)) holds (group t i).lamp
    let u := modGroup i (fun r => { r with lamp := d.1 }) t
    if d.2 then endCondition .lampOpen e.addr u else u

/-- The service state of a group has changed (R126, R128). -/
def groupService (i : Nat) (out : Bool) (s : State) : State :=
  let t := modGroup i (fun r => { r with out := out }) s
  if out then clearLamp (groupEntry t i).addr i t else t

end Sys2Proof.Machine
end

