-- ==== Sys2Proof/Machine/Signs.lean ====
section
/-! DEFINITION. Machine/Signs.lean: what a guidance sign shows and when it is sent (R111 to R115). -/

namespace Sys2Proof.Machine

/-- The reason set is not empty: the level is closed (R108). -/
def Reasons.closed (r : Reasons) : Bool := r.air || r.shortfall || r.fire || r.operator

/-- A level is closed to arrivals (R108). -/
def levelClosed (s : State) (l : Nat) : Bool := (getAt s.guide.levels l).reasons.closed

/-- The level of a row (R104). -/
def rowLevel (s : State) (r : Nat) : Nat := (getAt s.tables.rows r).level

/-- A source counts as closed: a LEVEL when it is closed, a ROW when its level is (R111). -/
def sourceClosed (s : State) : SignSource → Bool
  | .row r => levelClosed s (rowLevel s r)
  | .level l => levelClosed s l

/-- The effective free of a source (R111). -/
def effectiveFree (s : State) (x : SignSource) : Nat :=
  if sourceClosed s x then 0
  else match x with
    | .row r => getAt s.guide.rowFree r
    | .level l => (getAt s.guide.levels l).free - (getAt s.guide.levels l).arrivals.length

/-- The value of a sign: the sum of its sources' effective free, less the holdback, within 0..999 (R111). -/
def signValue (s : State) (e : SignEntry) : Nat := min 999 ((e.sources.map (effectiveFree s)).sum - e.holdback)

/-- The setting of a sign: mode and arrow, first match first (R111). -/
def signSetting (s : State) (e : SignEntry) : SignSetting :=
  if s.fire.latch then ⟨.exit, e.arrowFire⟩
  else if e.sources.all (sourceClosed s) then ⟨.closed, .none⟩
  else if signValue s e ≤ e.fullThreshold then ⟨.full, e.arrowFull⟩
  else ⟨.number (signValue s e), e.arrowOpen⟩

/-- A setting is sent: it becomes computed and last sent, nothing is pending and the interval timer restarts (R113). -/
def sendSign (i : Nat) (x : SignSetting) (s : State) : State :=
  let t : State := { s with guide := { s.guide with signs := modAt s.guide.signs i fun r =>
      { r with computed := x, lastSent := some x, pending := false
               timer := startTimer s (s.tables.control.signInterval * tenth) } } }
  setDesired (.sign i) (.sign x) t

/-- A sign's computed setting as it now is, compared with the last sent and sent, held back or left (R113, R115). -/
def offerSign (i : Nat) (x : SignSetting) (s : State) : State :=
  let r := getAt s.guide.signs i
  let keep (p : Bool) : State :=
    { s with guide := { s.guide with signs := setAt s.guide.signs i { r with computed := x, pending := p } } }
  if r.lastSent = some x then keep false
  else if r.timer.isSome then keep true
  else if r.out && !s.fire.latch then keep true
  else sendSign i x s

/-- A sign is computed anew and its result offered for sending (R112, R113). -/
def computeSign (i : Nat) (s : State) : State := offerSign i (signSetting s (getAt s.tables.signs i)) s

/-- Every sign is computed anew from the state an event left. A sign no change touched computes what it last computed, and
nothing comes of it (R112). -/
def refreshSigns (s : State) : State := forEach 48 computeSign s

/-- A sign is computed anew and set at once, whatever its timer, its pending mark and its service state (R114, R115). -/
def forceSign (i : Nat) (s : State) : State := sendSign i (signSetting s (getAt s.tables.signs i)) s

/-- The service state of a sign has changed (R115). -/
def signService (i : Nat) (out : Bool) (s : State) : State :=
  let t : State := { s with guide := { s.guide with signs := modAt s.guide.signs i fun r => { r with out := out } } }
  if out then (if s.fire.latch then t else withdraw (.sign i) t) else forceSign i t

end Sys2Proof.Machine
end

