-- ==== Sys2Proof/Machine/Service.lean ====
section
/-! DEFINITION. Machine/Service.lean: presences of conditions and what they do to the fault list, the flags and the service
state of equipment (R135, R136, R138 to R141). -/

namespace Sys2Proof.Machine

/-- The node address an equipment entry names. -/
def equipmentAddress (t : Settings) (k : NodeKind) (i : Nat) : Nat :=
  match k with
  | .gas => (getAt t.gasSensors i).addr
  | .bay => (getAt t.clusters i).addr
  | .lane => (getAt t.lanes i).addr
  | .fan => (getAt t.fans i).addr
  | .luminaire => (getAt t.groups i).addr
  | .sign => (getAt t.signs i).addr

/-- The service state of one equipment entry is judged, and a change handed to the block that owns it. Gas sensor heads are
read at each evaluation; clusters and lanes are never held out (R140). -/
def judgeEquipment (k : NodeKind) (i : Nat) (s : State) : State :=
  let now := serviceOf s (equipmentAddress s.tables k i)
  match k with
  | .fan => if (fan s i).service = now then s else fanService i now s
  | .luminaire =>
    let out := decide (now ≠ .inService)
    if (group s i).out = out then s else groupService i out s
  | .sign =>
    let out := decide (now ≠ .inService)
    if (getAt s.guide.signs i).out = out then s else signService i out s
  | .gas | .bay | .lane => s

/-- The service state of an address is judged (R140). -/
def judgeAddress (addr : Nat) (s : State) : State :=
  match (getAt s.nodes addr).equipment with
  | some (k, i) => judgeEquipment k i s
  | none => s

/-- A presence for a pair without a record, under a mode other than IGNORE (R135, R139). -/
def createRecord (c : FaultClass) (addr : Nat) (m : Mode) (s : State) : State :=
  match makeRoom s.faults.list with
  | some l => raiseFlag (categoryFlag c) (setList (l ++ [newRecord s c addr m]) s)
  | none => raiseFlag (categoryFlag c) (raiseFlag .listFull s)

/-- A presence is recorded in the record of its pair, which moves to the end of the list (R134, R136). -/
def recordPresence (r : FaultRecord) (m : Mode) (s : State) : State :=
  raiseFlag (categoryFlag r.cls)
    (setList ((s.faults.list.filter fun x => !x.isOf r.cls r.addr) ++ [recordAgain s m r]) s)

/-- A condition has become present: the record, the flags, and then the service state of the address (R132, R135, R136,
R140, R143). -/
def presence (c : FaultClass) (addr : Nat) (s : State) : State :=
  let m := modeOf s c
  let t :=
    if m = .ignore then s
    else match findRecord s c addr with
      | none => createRecord c addr m s
      | some r => if r.state = .active then s else recordPresence r m s
  judgeAddress addr t

/-- The retry timer of an OUT record has expired: the record ends, a standing condition counts as a new presence, and the
service state is judged once (R138). -/
def retryExpired (c : FaultClass) (addr : Nat) (s : State) : State :=
  let standing := (findRecord s c addr).any fun r => r.present
  let t := setList (s.faults.list.map fun r =>
    if r.isOf c addr then { r with state := .ended, timer := none, overridden := false } else r) s
  if standing then presence c addr t else judgeAddress addr t

/-- The records of a CLEAR FAULTS category that it removes: those whose condition is absent (R141). -/
def cleared (code : Nat) (r : FaultRecord) : Bool := inCategory code r.cls && !r.present

/-- The records of a category are cleared and the addresses that lost one are judged (R141), in the order of the fault list
(DESIGN CHOICE, log 7). -/
def clearRecords (code : Nat) (s : State) : State :=
  let gone := (s.faults.list.filter (cleared code)).map (·.addr)
  gone.foldl (fun t a => judgeAddress a t) (setList (s.faults.list.filter fun r => !cleared code r) s)

/-- Fire entry as the fault block takes it: the FIRE flag, and the OVERRIDDEN marks (R142, R143). The addresses are judged in
the order of the fault list (DESIGN CHOICE, log 7). -/
def faultsFireEntry (s : State) : State :=
  let marks (r : FaultRecord) : Bool := fireReports r.cls && (decide (r.state = .out) || decide (r.state = .latched))
  let addrs := (s.faults.list.filter marks).map (·.addr)
  let t := raiseFlag .fire s
  addrs.foldl (fun u a => judgeAddress a u)
    (setList (t.faults.list.map fun r => if marks r then { r with overridden := true } else r) t)

/-- Fire exit as the fault block takes it: every OVERRIDDEN mark is removed (R142). The addresses are judged in the order of
the fault list (DESIGN CHOICE, log 7). -/
def faultsFireExit (s : State) : State :=
  let addrs := (s.faults.list.filter (·.overridden)).map (·.addr)
  addrs.foldl (fun u a => judgeAddress a u) (setList (s.faults.list.map fun r => { r with overridden := false }) s)

/-! ## Failed attempts and takings (R45 to R47) -/

/-- ACTUATOR_NO_TAKE is present for an address (R47). -/
def noTake (s : State) (addr : Nat) : Bool := getAt s.delivery.noTake addr

/-- Mark ACTUATOR_NO_TAKE present or absent for an address. -/
def setNoTake (addr : Nat) (on : Bool) (s : State) : State :=
  { s with delivery := { s.delivery with noTake := setAt s.delivery.noTake addr on } }

/-- An ACTUATOR_NO_TAKE condition that is present for the address ends (R45, R50). -/
def endNoTake (addr : Nat) (s : State) : State :=
  if noTake s addr then endCondition .actuatorNoTake addr (setNoTake addr false s) else s

/-- ACTUATOR_NO_TAKE becomes present for the address, and is handed on if it was absent (R47, R132). -/
def raiseNoTake (addr : Nat) (s : State) : State :=
  if noTake s addr then s else presence .actuatorNoTake addr (setNoTake addr true s)

/-- A failed attempt of the frame the record had in flight (R46, R47). At the third failure the record is IDLE before
ACTUATOR_NO_TAKE is handed on, so that a setting the response sets is offered at once (DESIGN CHOICE, log 7). -/
def failAttempt (a : Actuator) (dest : Nat) (s : State) : State :=
  let r := { s.record a with inFlight := none, returnTimer := none }
  let wait := startTimer s (s.tables.control.resendInterval * tenth)
  if r.desired = none then s.setRecord a { r with state := .idle, attempts := 0 }
  else if actuatorAddress s.tables a ≠ dest then
    s.setRecord a { r with state := .resendWait, resendTimer := wait }
  else if r.attempts + 1 < 3 then
    s.setRecord a { r with state := .resendWait, attempts := r.attempts + 1, resendTimer := wait }
  else raiseNoTake dest (s.setRecord a { r with state := .idle, attempts := 0 })

/-- A matching return marked TAKEN (R45). -/
def takeReturn (a : Actuator) (f : InFlight) (s : State) : State :=
  let r := { s.record a with
    lastTaken := some f.setting, inFlight := none, attempts := 0, returnTimer := none, state := .idle }
  let t := endNoTake f.dest (s.setRecord a r)
  match r.desired with
  | none => t
  | some d => if d.setting = f.setting then t else offerRecord a t

/-- The proxy access has ended with a reply code and a value, and the management block builds the reply (R51, R175). -/
def endProxy (code : Nat) (content : List Byte) (s : State) : State :=
  let sender := s.mgmt.proxySender
  let t := { s with
    delivery := { s.delivery with proxy := { s.delivery.proxy with state := .idle, timer := none } }
    mgmt := { s.mgmt with proxySender := none } }
  match sender with
  | some w => sendReply ⟨w.source, w.tag, b8 17 :: b8 code :: content⟩ t
  | none => t

/-- The proxy access is in flight with this tag and destination (R44, R51). -/
def proxyMatches (s : State) (dest tag : Nat) : Bool :=
  decide (s.delivery.proxy.state = .inFlight) && decide (s.delivery.proxy.tag = tag)
    && decide (s.delivery.proxy.target = dest)

/-- The record is in flight with this tag and destination (R44). -/
def recordMatches (s : State) (dest tag : Nat) (a : Actuator) : Bool :=
  decide ((s.record a).state = .inFlight)
    && (s.record a).inFlight.any fun f => decide (f.tag = tag) && decide (f.dest = dest)

/-- The value of a DONE answer to ASK NODE: the value the node filled in for a READ, bytes 3 and 4 of the returned payload,
and the value sent for a WRITE (R175). -/
def answeredValue (p : Proxy) (payload : List Byte) : List Byte :=
  if p.op = 2 then b16 p.value else (payload.drop 2).take 2

/-- A returned COMMAND to a single address, matched by its tag and destination; a frame that matches nothing is a late
return (R44, R45, R46, R51). -/
def commandReturned (f : Frame) (s : State) : State :=
  if proxyMatches s f.dest f.tag then
    if f.mark = markTaken then endProxy 0 (answeredValue s.delivery.proxy f.payload) s
    else if f.mark = markRefused then endProxy 8 [] s
    else endProxy 7 [] s
  else
    match allActuators.find? (recordMatches s f.dest f.tag) with
    | none => s
    | some a =>
      match (s.record a).inFlight with
      | none => s
      | some g => if f.mark = markTaken then takeReturn a g s else failAttempt a g.dest s

end Sys2Proof.Machine
end

