-- ==== Sys2Proof/Machine/Guidance.lean ====
section
/-! DEFINITION. Machine/Guidance.lean: bays, free counts, arrival lists and level closure (R99 to R110), and the traffic
load that vehicle events add to (R61). -/

namespace Sys2Proof.Machine

/-! ## Traffic load (R61) -/

/-- A vehicle event adds to a zone's traffic load, which saturates (R61). -/
def addLoad (z n : Nat) (s : State) : State :=
  { s with air := { s.air with zones := modAt s.air.zones z fun r => { r with load := min loadTop (r.load + n) } } }

/-! ## Free counts (R104) -/

/-- A bay counts as free in its row: FREE and not held (R104). -/
def bayCounts (e : BayEntry) (r : BayRecord) (row : Nat) : Bool :=
  decide (e.row = row) && !e.held && decide (r.state = some .free)

/-- The number of bays of a row that are FREE and not held (R104). -/
def countRow (t : Settings) (bays : Vector BayRecord 2048) (row : Nat) : Nat :=
  ((t.bays.toList.zip bays.toList).filter fun p => bayCounts p.1 p.2 row).length

/-- The sum of the free counts of the rows of a level (R104). -/
def countLevel (t : Settings) (rowFree : Vector Nat 64) (level : Nat) : Nat :=
  ((t.rows.toList.zip rowFree.toList).map fun p => if p.1.level = level then p.2 else 0).sum

/-- Every free count is worked out anew (R104). -/
def recount (s : State) : State :=
  let rowFree := Vector.ofFn fun r : Fin 64 => countRow s.tables s.guide.bays r.val
  { s with guide := { s.guide with
      rowFree := rowFree
      levels := Vector.ofFn fun l : Fin 8 => { s.guide.levels[l] with free := countLevel s.tables rowFree l.val } } }

/-! ## Arrival lists (R105 to R107) -/

/-- The state with a level's record changed. -/
def modLevel (l : Nat) (f : LevelRecord → LevelRecord) (s : State) : State :=
  { s with guide := { s.guide with levels := modAt s.guide.levels l f } }

/-- One entry is appended; a full list drops its oldest entry first (R106). -/
def arrive (x : Arrival) (r : LevelRecord) : LevelRecord :=
  if r.arrivals.length < arrivalCapacity then { r with arrivals := r.arrivals ++ [x] }
  else { r with arrivals := r.arrivals.drop 1 ++ [x], dropped := bump r.dropped }

/-- The oldest entry is removed, if there is one (R106, R107). -/
def departOldest (r : LevelRecord) : LevelRecord := { r with arrivals := r.arrivals.drop 1 }

/-- `f` applied `n` times. -/
def repeatOn {α : Type} (f : α → α) : Nat → α → α
  | 0, x => x
  | n + 1, x => repeatOn f n (f x)

/-- Entries whose age has reached the transit timeout leave from the head, each counted as aged (R107). -/
def ageOut (now timeout : Nat) : List Arrival → Nat → List Arrival × Nat
  | [], aged => ([], aged)
  | x :: rest, aged => if timeout ≤ now - x.time then ageOut now timeout rest (bump aged) else (x :: rest, aged)

/-- A level's list less the entries that have reached its transit timeout (R107). -/
def ageLevel (l : Nat) (s : State) : State :=
  modLevel l (fun r =>
    let p := ageOut (tenthsSinceStart s) ((getAt s.tables.levels l).transit * 10) r.arrivals r.aged
    { r with arrivals := p.1, aged := p.2 }) s

/-- Lane pulses as the arrival lists take them: IN pulses first, then OUT pulses (R106). -/
def applyPulses (e : LaneEntry) (inPulses outPulses : Nat) (s : State) : State :=
  let t := match e.inLevel with
    | some v => modLevel v (repeatOn (arrive ⟨tenthsSinceStart s, e.addr⟩) inPulses) s
    | none => s
  match e.passThrough, e.outLevel with
  | true, some v => modLevel v (repeatOn departOldest outPulses) t
  | _, _ => t

/-! ## Bays (R99 to R103) -/

/-- The state with a bay's record changed. -/
def modBay (b : Nat) (f : BayRecord → BayRecord) (s : State) : State :=
  { s with guide := { s.guide with bays := modAt s.guide.bays b f } }

/-- A bay's record. -/
def bay (s : State) (b : Nat) : BayRecord := getAt s.guide.bays b

/-- The vehicle event of a settled change between FREE and TAKEN: traffic for the row's zone, and presence for the groups
that list the row (R101). -/
def bayVehicle (row : Nat) (s : State) : State :=
  triggerGroups (.row row) (addLoad (getAt s.tables.rows row).zone s.tables.control.bayIncrement s)

/-- A settled change of a bay to a state: counts, arrivals, traffic and lighting follow (R101, R104, R107). The signs are
computed once when the event is over (R112). -/
def settleBay (b : Nat) (new : SlotState) (s : State) : State :=
  let old := (bay s b).state
  let row := (getAt s.tables.bays b).row
  let t := recount (modBay b (fun r => { r with state := some new, pending := none, timer := none }) s)
  let u := if old = some .free ∧ new = .taken then modLevel (rowLevel t row) departOldest t else t
  if (old = some .free ∧ new = .taken) ∨ (old = some .taken ∧ new = .free) then bayVehicle row u else u

/-- The reported state of one slot acts on its bay (R100). -/
def reportBay (b : Nat) (x : SlotState) (s : State) : State :=
  let t := modBay b (fun r => { r with lastReported := some x }) s
  let r := bay t b
  if r.state = none then settleBay b x t
  else if r.state = some x then modBay b (fun r => { r with pending := none, timer := none }) t
  else if r.pending = some x then t
  else if t.tables.control.baySettle = 0 then settleBay b x t
  else modBay b (fun r => { r with pending := some x, timer := startTimer t (t.tables.control.baySettle * second) }) t

/-- A bay becomes UNKNOWN at once, its pending state cancelled (R95, R102). -/
def bayUnknown (b : Nat) (s : State) : State :=
  modBay b (fun r => { r with state := none, pending := none, timer := none }) s

/-- The bays of a cluster's range: from its first bay index onward for its bay count, stopping at bay 2047 (6.1). -/
def clusterRange (e : ClusterEntry) : List Nat := ((List.range e.count).map (e.first + ·)).filter (· < 2048)

/-- `f` for each of some places, in order. -/
def forList (xs : List Nat) (f : Nat → State → State) (s : State) : State := xs.foldl (fun t x => f x t) s

/-- The BAY_SENSOR_FAULT condition of a cluster is judged from what the cluster last said of its bays (R103). -/
def judgeCluster (i : Nat) (s : State) : State :=
  let e := getAt s.tables.clusters i
  let was := getAt s.guide.clusterFault i
  let now := (clusterRange e).any fun b => decide ((bay s b).lastReported = some .fault)
  let t := { s with guide := { s.guide with clusterFault := setAt s.guide.clusterFault i now } }
  if now && !was then presence .baySensorFault e.addr t
  else if was && !now then endCondition .baySensorFault e.addr t
  else t

/-- A report of a cluster as one event: its slots in order, then the judgement (R28, R100, R103). -/
def clusterReport (i : Nat) (slots : List SlotState) (s : State) : State :=
  let e := getAt s.tables.clusters i
  let given := ((List.range e.count).zip slots).filter fun p => e.first + p.1 < 2048
  judgeCluster i (given.foldl (fun t p => reportBay (e.first + p.1) p.2 t) s)

/-- A silent cluster's bays become UNKNOWN and the counts follow (R35, R102). -/
def clusterSilent (i : Nat) (s : State) : State :=
  recount (forList (clusterRange (getAt s.tables.clusters i)) bayUnknown s)

/-! ## Level closure (R108 to R110) -/

/-- A level's reasons are changed. -/
def modReasons (l : Nat) (f : Reasons → Reasons) (s : State) : State :=
  modLevel l (fun r => { r with reasons := f r.reasons }) s

/-- The zones of a level: those whose ZONES entry names it (6.5). -/
def zonesOf (s : State) (l : Nat) : List Nat := (List.range 16).filter fun z => (getAt s.tables.zones z).level = l

/-- The SHORTFALL reason of every level is judged (R110). -/
def judgeShortfall (s : State) : State :=
  forEach 8 (fun l t =>
    let on := (zonesOf t l).any fun z => (getAt t.air.zones z).shortfall
    modReasons l (fun r => { r with shortfall := on }) t) s

/-- The AIR reason of a level is judged at an air index hand-over (R109). -/
def judgeAirLevel (l : Nat) (s : State) : State :=
  let e := getAt s.tables.levels l
  let index (z : Nat) : Nat := (getAt s.air.zones z).airIndex
  if (zonesOf s l).any fun z => decide (e.closure ≤ index z) then modReasons l (fun r => { r with air := true }) s
  else if (zonesOf s l).all fun z => decide (index z < e.release) then modReasons l (fun r => { r with air := false }) s
  else s

/-- The air index hand-over (R69, R109, R110). -/
def judgeClosure (s : State) : State := judgeShortfall (forEach 8 judgeAirLevel s)

/-- Fire entry as the guidance block takes it: FIRE on every level, and every sign set at once (R108, R114). -/
def guideFireEntry (s : State) : State :=
  forEach 48 forceSign (forEach 8 (fun l t => modReasons l (fun r => { r with fire := true }) t) s)

/-- Fire exit as the guidance block takes it (R108, R114). -/
def guideFireExit (s : State) : State :=
  forEach 48 forceSign (forEach 8 (fun l t => modReasons l (fun r => { r with fire := false }) t) s)

end Sys2Proof.Machine
end

