-- ==== Sys2Proof/Machine/Ventilation.lean ====
section
/-! DEFINITION. Machine/Ventilation.lean: gas averages (R54, R55), the evaluation of a zone (R57 to R69) and the allocation
of its airflow (R76 to R79). -/

namespace Sys2Proof.Machine

/-! ## Gas averages (R54, R55) -/

/-- One gas through the filter: 16 times the first reading, or a step toward it of at least 1 (R55). -/
def filterStep (k : Nat) (avg : Option Nat) (reading : Option Nat) : Option Nat :=
  match reading, avg with
  | none, a => a
  | some r, none => some (16 * r)
  | some r, some a =>
    let d : Int := 16 * (r : Int) - a
    let step := d.tdiv (2 ^ k : Nat)
    let step' := if step = 0 then d.sign else step
    some ((a : Int) + step').toNat

/-- A decoded gas report (R27). -/
structure GasReport where
  co : Option Nat
  no2 : Option Nat
  status : GasStatus
deriving DecidableEq, Repr

/-- A gas report as the air block takes it (R54, R55). -/
def gasReport (i : Nat) (x : GasReport) (first : Bool) (s : State) : State :=
  let k := (getAt s.tables.zones (getAt s.tables.gasSensors i).zone).shift
  { s with air := { s.air with sensors := modAt s.air.sensors i fun r =>
      let co := if first then none else r.co
      let no2 := if first then none else r.no2
      if x.status = .ok then ⟨filterStep k co x.co, filterStep k no2 x.no2, some .ok⟩
      else ⟨co, no2, some x.status⟩ } }

/-! ## Air index (R57, R58) -/

/-- One part of a sensor index (R57). -/
def indexPart (full : Nat) (avg : Nat) : Nat := min 1000 (avg * 1000 / (16 * full))

/-- The index of a sensor that has at least one average (R57). -/
def sensorIndex (e : ZoneEntry) (r : SensorRecord) : Option Nat :=
  match r.co, r.no2 with
  | some c, some n => some (max (indexPart e.coFull c) (indexPart e.no2Full n))
  | some c, none => some (indexPart e.coFull c)
  | none, some n => some (indexPart e.no2Full n)
  | none, none => none

/-- The sensor index of GASSENSORS entry `i`, when it is a usable sensor of the zone (R57). -/
def usableIndex (s : State) (z i : Nat) : Option Nat :=
  let e := getAt s.tables.gasSensors i
  let r := getAt s.air.sensors i
  if e.zone = z ∧ e.addr ≠ 0 ∧ (getAt s.nodes e.addr).liveness = .live ∧ r.lastStatus = some .ok
      ∧ outOfService s e.addr = false then
    sensorIndex (getAt s.tables.zones z) r
  else none

/-- The usable sensors of a zone, lowest entry first, each with its index (R57). -/
def usableSensors (s : State) (z : Nat) : List (Nat × Nat) :=
  (List.range 64).filterMap fun i => (usableIndex s z i).map fun x => (i, x)

/-- The first of the largest: the source of an air index (R58). -/
def bestSensor : List (Nat × Nat) → Option (Nat × Nat)
  | [] => none
  | p :: rest =>
    match bestSensor rest with
    | none => some p
    | some q => if p.2 < q.2 then some q else some p

/-! ## Traffic, demand and stage (R62 to R67) -/

/-- The traffic load after an evaluation's decay (R62). -/
def decayed (e : ZoneEntry) (load : Nat) : Nat := load - max 1 (load * e.decay / 256)

/-- The traffic index of a decayed load (R63). -/
def trafficIndex (e : ZoneEntry) (load : Nat) : Nat := min 1000 (load * e.trafficFactor / 64)

/-- Stages in order. -/
def Stage.rank : Stage → Nat
  | .off => 0 | .low => 1 | .mid => 2 | .high => 3

/-- The highest stage whose up threshold the demand reaches (R65). -/
def reached (e : ZoneEntry) (demand : Nat) : Stage :=
  if e.up3 ≤ demand then .high else if e.up2 ≤ demand then .mid else if e.up1 ≤ demand then .low else .off

/-- The down threshold of a stage, and the stage below it; OFF has none (R66). -/
def fallOf (e : ZoneEntry) : Stage → Option (Nat × Stage)
  | .high => some (e.dn3, .mid)
  | .mid => some (e.dn2, .low)
  | .low => some (e.dn1, .off)
  | .off => none

/-- Stage and dwell count after an evaluation (R65, R66). -/
def nextStage (e : ZoneEntry) (demand : Nat) (st : Stage) (dwell : Nat) : Stage × Nat :=
  if st.rank < (reached e demand).rank then (reached e demand, 0)
  else match fallOf e st with
    | some (dn, below) => if demand < dn ∧ e.dwell ≤ dwell then (below, 0) else (st, min 20 (dwell + 1))
    | none => (st, min 20 (dwell + 1))

/-- The airflow a stage asks for (R67). -/
def airflowOf (e : ZoneEntry) : Stage → Nat
  | .off => e.airOff | .low => e.airLow | .mid => e.airMid | .high => e.airHigh

/-- The state with a zone's record changed. -/
def modZone (z : Nat) (f : ZoneRecord → ZoneRecord) (s : State) : State :=
  { s with air := { s.air with zones := modAt s.air.zones z f } }

/-- The zone record an evaluation works out, up to the target airflow (R57 to R67). -/
def evaluated (s : State) (z : Nat) : ZoneRecord :=
  let e := getAt s.tables.zones z
  let r := getAt s.air.zones z
  let us := usableSensors s z
  let best := bestSensor us
  let air := match best with | some p => p.2 | none => e.substitute
  let load := decayed e r.load
  let traffic := trafficIndex e load
  let demand := max (max air traffic) e.floor
  let st := nextStage e demand r.stage r.dwell
  { r with
    evaluated := true, airIndex := air, source := best.map (·.1), usable := us.length, load := load
    trafficIndex := traffic, demand := demand, stage := st.1, dwell := st.2, airflow := airflowOf e st.1 }

/-! ## Allocation (R76 to R79) -/

/-- Division rounded up. -/
def ceilDiv (a b : Nat) : Nat := (a + b - 1) / b

/-- The fans of a zone, in entry order (5.3). -/
def fansOf (s : State) (z : Nat) : List Nat :=
  (List.range 48).filter fun i => decide ((getAt s.tables.fans i).addr ≠ 0) && decide ((getAt s.tables.fans i).zone = z)

/-- The fan is in service and not held by the plan. -/
def allocatable (s : State) (i : Nat) : Bool := decide ((fan s i).service = .inService) && !(fan s i).held

/-- The fan counts as manual (5.3). -/
def countsManual (s : State) (i : Nat) : Bool := allocatable s i && (fan s i).manualMode

/-- The fan counts as automatic (5.3). -/
def countsAuto (s : State) (i : Nat) : Bool := allocatable s i && !(fan s i).manualMode

/-- Rated flow of a fan. -/
def ratedFlow (s : State) (i : Nat) : Nat := (getAt s.tables.fans i).ratedFlow

/-- The manual flow M of a fan: its manual speed if it counts as manual, its commanded speed if the plan holds it (R76). -/
def manualFlow (s : State) (i : Nat) : Nat :=
  if (fan s i).held then ratedFlow s i * (fan s i).commanded.speed / 100
  else if countsManual s i then ratedFlow s i * (fan s i).manual.speed / 100
  else 0

/-- The automatic share F_auto of a zone (R76). -/
def autoShare (s : State) (z p : Nat) : Nat :=
  let fs := fansOf s z
  ceilDiv (p * (fs.map (ratedFlow s)).sum) 100 - (fs.map (manualFlow s)).sum

/-- The available capacity A of a zone (R76). -/
def available (s : State) (z : Nat) : Nat := (((fansOf s z).filter (countsAuto s)).map (ratedFlow s)).sum

/-- The target speed s and the SHORTFALL flag of a zone (R77). -/
def targetSpeed (share avail : Nat) : Nat × Bool :=
  if share = 0 then (0, false)
  else if avail < share then (100, true)
  else (ceilDiv (share * 100) avail, false)

/-- The speed an allocation moves an automatic fan to (R77, R78). -/
def rampSpeed (e : FanEntry) (sp c : Nat) : Nat :=
  let t := if 0 < sp ∧ sp < e.minSpeed then e.minSpeed else sp
  let n := if t ≤ c + e.rampStep ∧ c ≤ t + e.rampStep then t else if c < t then c + e.rampStep else c - e.rampStep
  if 0 < n ∧ n < e.minSpeed then (if sp = 0 then 0 else e.minSpeed) else n

/-- One fan of a zone at its allocation (R78, R79). -/
def allocateFan (sp : Nat) (i : Nat) (s : State) : State :=
  let r := fan s i
  if r.held then s
  else match r.service with
    | .out .stop => stopFan i s
    | .out .release => s
    | .inService =>
      if r.manualMode then setFan i r.manual s
      else setFan i ⟨rampSpeed (getAt s.tables.fans i) sp r.commanded.speed, .forward⟩ s

/-- The fault block takes a zone's SHORTFALL flag (R77, R143). -/
def faultsShortfall (z : Nat) (on : Bool) (s : State) : State :=
  let t := { s with faults := { s.faults with shortfall := setAt s.faults.shortfall z on } }
  if on then raiseFlag .shortfall t else t

/-- A zone's SHORTFALL flag is written; a change is handed to the fault, guidance and lighting blocks (R77). The three touch
different state, so every order of them gives the same result. -/
def setShortfall (z : Nat) (on : Bool) (s : State) : State :=
  if (getAt s.air.zones z).shortfall = on then s
  else lightShortfall z (judgeShortfall (faultsShortfall z on (modZone z (fun r => { r with shortfall := on }) s)))

/-- The allocation of a zone's airflow (R76 to R79): the flag, then the fans in the order of their entries. The speeds are
worked out from the fans as the allocation found them. -/
def allocate (z p : Nat) (s : State) : State :=
  let x := targetSpeed (autoShare s z p) (available s z)
  forList (fansOf s z) (allocateFan x.1) (setShortfall z x.2 s)

/-! ## The evaluation (R67 to R70) -/

/-- The GAS_HIGH cause of a zone is set from its air index and handed to the fault block (R68, R143). -/
def judgeGasHigh (z : Nat) (s : State) : State :=
  let on := decide ((getAt s.tables.zones z).alarm ≤ (getAt s.air.zones z).airIndex)
  let t := modZone z (fun r => { r with gasHigh := on }) s
  let u := { t with faults := { t.faults with gasHigh := setAt t.faults.gasHigh z on } }
  if on then raiseFlag .gasHigh u else u

/-- One zone of an evaluation: its record, the allocation, the GAS_HIGH cause after it, and the lighting hand-over (R67 to
R70). The lighting hand-over comes last: the manual gives no order, and the SHORTFALL hand-over of the allocation writes the
causes of the same groups, so that a target may differ by the order (DESIGN CHOICE, log 7). -/
def evaluateZone (z : Nat) (s : State) : State :=
  let r := evaluated s z
  lightAir z (judgeGasHigh z (allocate z r.airflow (modZone z (fun _ => r) s)))

/-- All zones, zone 0 first, then the guidance block's closure judgement (R69, R70). -/
def evaluateAll (s : State) : State := judgeClosure (forEach 16 evaluateZone s)

end Sys2Proof.Machine
end

