-- ==== Sys2Proof/Machine/FireMode.lean ====
section
/-! DEFINITION. Machine/FireMode.lean: entering and leaving fire mode (R154 to R156) and the group commands (R16). -/

namespace Sys2Proof.Machine

/-- The CONTROL fields of a group address 240..254 (1.8). -/
def groupAddress (t : Settings) (g : Nat) : GroupAddress := getAt t.control.groupAddresses (g - 240)

/-- The range of a group address holds the driver node address of at least one GROUPS entry (R16). -/
def holdsDriver (t : Settings) (a : GroupAddress) : Bool :=
  (List.range 96).any fun i =>
    let d := (getAt t.groups i).addr
    decide (d ≠ 0) && decide (a.low ≤ d) && decide (d ≤ a.high)

/-- The group address is sent a group command at fire entry (R16). -/
def groupTarget (t : Settings) (g : Nat) : Bool :=
  let a := groupAddress t g
  a.defined && a.luminaires && holdsDriver t a

/-- A group command of an earlier entry still waits in the queue or for room (R16). -/
def groupWaits (s : State) (g : Nat) : Bool :=
  (s.ring.insertion.any fun f => decide (f.draft.body = .groupFull g)) || s.ring.claims.any fun c => decide (c = .group g)

/-- The group commands of a fire entry, in the order of their addresses (R16, R154). -/
def groupCommands (s : State) : State :=
  forEach 15 (fun k t =>
    let g := 240 + k
    if groupTarget t.tables g && !groupWaits t g then offer (.group g) (groupDraft g) t else t) s

/-- Fire mode is entered: the latch becomes set, and the hand-overs of R154 follow in no order. -/
def enterFire (s : State) : State :=
  inAnyOrder [faultsFireEntry, forEach 48 holdFan, lightFire true, guideFireEntry, groupCommands]
    { s with fire := { s.fire with latch := true } }

/-- An event sets the fire latch; a latch already set is left, and nothing is entered again (R150). -/
def setLatch (s : State) : State := if s.fire.latch then s else enterFire s

/-- Fire mode is left: the latch becomes clear, the start timers stop, and the hand-overs of R156 follow in no order. -/
def leaveFire (s : State) : State :=
  inAnyOrder [faultsFireExit, forEach 48 unholdFan, lightFire false, guideFireExit]
    { s with fire := { s.fire with latch := false, startTimers := Vector.replicate 48 .stopped } }

/-- A start timer runs and its time has come (R155). -/
def startDue (clock : Nat) : StartTimer → Bool
  | .running e => e ≤ clock
  | .stopped | .expired => false

/-- A fan's start timer expires: its plan setting is set (R155). -/
def startDelayExpired (i : Nat) (s : State) : State :=
  setPlanSetting i { s with fire := { s.fire with startTimers := setAt s.fire.startTimers i .expired } }

end Sys2Proof.Machine
end

