-- ==== Sys2Proof/Machine/NodeMap.lean ====
section
/-! DEFINITION. Machine/NodeMap.lean: the node map (R21, R22), liveness (R23 to R26), the contents of each kind of report
(R27 to R34) and the effects of silence (R35, R36). -/

namespace Sys2Proof.Machine

/-! ## The map (R21, R22) -/

/-- Every equipment entry: kind, index and node address (2.1). -/
def allEquipment (t : Settings) : List (NodeKind × Nat × Nat) :=
  let rows (k : NodeKind) (n : Nat) := (List.range n).map fun i => (k, i, equipmentAddress t k i)
  rows .gas 64 ++ rows .bay 256 ++ rows .lane 32 ++ rows .fan 48 ++ rows .luminaire 96 ++ rows .sign 48

/-- The equipment entry that names an address; address 0 names none (R21). -/
def equipmentAt (t : Settings) (addr : Nat) : Option (NodeKind × Nat) :=
  if addr = 0 then none
  else ((allEquipment t).find? fun e => e.2.2 = addr).map fun e => (e.1, e.2.1)

/-- The address is already named by another equipment entry (R21). Address 0 is never checked. -/
def namedByAnother (t : Settings) (k : NodeKind) (i addr : Nat) : Bool :=
  addr ≠ 0 && (allEquipment t).any fun e => decide (e.2.2 = addr) && !(decide (e.1 = k) && decide (e.2.1 = i))

/-- A node record. -/
def node (s : State) (addr : Nat) : NodeRecord := getAt s.nodes addr

/-- The state with a node record changed. -/
def modNode (addr : Nat) (f : NodeRecord → NodeRecord) (s : State) : State := { s with nodes := modAt s.nodes addr f }

/-- The map as built from the loaded tables (R22, R37). -/
def buildMap (t : Settings) : Vector NodeRecord 224 :=
  Vector.ofFn fun a : Fin 224 => { freshNode with equipment := equipmentAt t a.val }

/-- One record is set up again with other equipment: its conditions end, and it is UNHEARD (R22). -/
def resetNode (addr : Nat) (eq : Option (NodeKind × Nat)) (s : State) : State :=
  let r := node s addr
  let t := modNode addr (fun _ => { freshNode with equipment := eq }) s
  let u := if r.liveness = .silent then endCondition .nodeSilent addr t else t
  if r.sensorFault then endCondition .gasSensorFault addr u else u

/-- A written entry names a new address, or none (R22). -/
def moveNode (k : NodeKind) (i old new : Nat) (s : State) : State :=
  let t := if old = 0 then s else resetNode old none s
  if new = 0 then t else resetNode new (some (k, i)) t

/-! ## Liveness (R24 to R26) -/

/-- The CONTROL silence interval of a kind, in seconds (2.3). -/
def silenceInterval (c : Control) : NodeKind → Nat
  | .gas => c.silenceGas
  | .bay => c.silenceBay
  | .lane => c.silenceLane
  | .fan => c.silenceFan
  | .luminaire => c.silenceLuminaire
  | .sign => c.silenceSign

/-- The liveness effect of an accepted report (R24, R26). -/
def hear (k : NodeKind) (addr : Nat) (s : State) : State :=
  let was := (node s addr).liveness
  let t := modNode addr (fun r => { r with
    liveness := .live, silenceTimer := startTimer s (silenceInterval s.tables.control k * second) }) s
  if was = .silent then endCondition .nodeSilent addr t else t

/-! ## Report contents (2.4) -/

/-- A gas reading: 65535 is no reading, and a value above the top is clamped (R27). -/
def reading (top hi lo : Nat) : Option Nat :=
  if hi * 256 + lo = 65535 then none else some (min top (hi * 256 + lo))

/-- A gas sensor head's report (R27). -/
def parseGas : List Byte → Option GasReport
  | [ch, cl, nh, nl, st] =>
    let status : Option GasStatus :=
      match st.toNat with
      | 0 => some .ok | 1 => some .warming | 2 => some .fault | _ => none
    status.map fun x => ⟨reading 1000 ch.toNat cl.toNat, reading 200 nh.toNat nl.toNat, x⟩
  | _ => none

/-- One reported bay slot state (R28). -/
def parseSlot (b : Byte) : Option SlotState :=
  match b.toNat with
  | 0 => some .free | 1 => some .taken | 2 => some .fault | _ => none

/-- A bay cluster's report: a count 1..8 and as many slot states (R28). -/
def parseCluster : List Byte → Option (List SlotState)
  | [] => none
  | n :: slots =>
    if 1 ≤ n.toNat ∧ n.toNat ≤ 8 ∧ slots.length = n.toNat then slots.mapM parseSlot else none

/-- A lane counter's report: IN and OUT count (R29). -/
def parseLane : List Byte → Option (Nat × Nat)
  | [i, o] => some (i.toNat, o.toNat)
  | _ => none

/-- A fan drive's report (R31). -/
def parseDrive : List Byte → Option DriveReport
  | [sp, ch, cl, dir, st] =>
    let direction : Option Direction := match dir.toNat with | 0 => some .forward | 1 => some .reverse | _ => none
    let status : Option DriveStatus :=
      match st.toNat with
      | 0 => some .running | 1 => some .stopped | 2 => some .tripped | _ => none
    match direction, status with
    | some d, some x => some ⟨min 110 sp.toNat, min 2000 (word ch cl), d, x⟩
    | _, _ => none
  | _ => none

/-- A luminaire driver's report, with its motion count (R32, R33). -/
def parseLuminaire : List Byte → Option (LampReport × Nat)
  | [o, ch, cl, m] => some (⟨min 100 o.toNat, min 5000 (word ch cl)⟩, m.toNat)
  | _ => none

/-! ## What each kind hands on -/

/-- A gas report: the sensor fault first, then the air block (R27). -/
def acceptGas (i addr : Nat) (first : Bool) (x : GasReport) (s : State) : State :=
  let was := (node s addr).sensorFault
  let now := decide (x.status = .fault)
  let t := modNode addr (fun r => { r with sensorFault := now }) (gasReport i x first s)
  if now && !was then presence .gasSensorFault addr t
  else if was && !now then endCondition .gasSensorFault addr t
  else t

/-- The pulses since the baseline in one direction (R29). -/
def pulses (limit baseline count : Nat) : Nat := min ((count + 256 - baseline) % 256) limit

/-- Lane pulses as the guidance, air and lighting blocks take them (R30). The three touch different state, so every order
of them gives the same result. -/
def lanePulses (i inPulses outPulses : Nat) (s : State) : State :=
  let e := getAt s.tables.lanes i
  triggerGroups (.lane i)
    (addLoad e.zone ((inPulses + outPulses) * e.increment) (applyPulses e inPulses outPulses s))

/-- A lane counter's report (R29, R30). -/
def acceptLane (i addr : Nat) (first : Bool) (x : Nat × Nat) (s : State) : State :=
  let t := modNode addr (fun r => { r with baseline := .lane x.1 x.2 }) s
  match first, (node s addr).baseline with
  | false, .lane bi bo =>
    let limit := (getAt s.tables.lanes i).jumpLimit
    let p := pulses limit bi x.1
    let q := pulses limit bo x.2
    if p + q = 0 then t else lanePulses i p q t
  | _, _ => t

/-- A fan drive's report: stored, the three deglitched tests made if they are to be made, and the drive-trip test made;
the changes are handed to the fault block in no order (R85 to R90). -/
def acceptDrive (i : Nat) (x : DriveReport) (s : State) : State :=
  let addr := fanAddress s i
  let t := modFan i (fun r => { r with reported := some x }) s
  let tested := match testsMade t i with
    | some ref => applyTest i x ref .overspeed (applyTest i x ref .noLoad (applyTest i x ref .stall (t, [])))
    | none => (stopTestTimers i t, [])
  let was := (fan t i).trip
  let now := decide (x.status = .tripped)
  let u := modFan i (fun r => { r with trip := now }) tested.1
  inAnyOrder (tested.2 ++
    (if now && !was then [presence .fanDriveTrip addr]
     else if was && !now then [endCondition .fanDriveTrip addr]
     else [])) u

/-- A motion increase: ignored out of service, else traffic for the zone, and presence with OWN_MOTION (R123). -/
def motionIncrease (i n : Nat) (s : State) : State :=
  if (group s i).out then s
  else
    let e := groupEntry s i
    let t := addLoad e.zone (n * e.motionIncrement) s
    if Trigger.ownMotion ∈ e.triggers then presenceEvent i t else t

/-- A luminaire driver's report (R32, R33, R123, R125). -/
def acceptLuminaire (i addr : Nat) (first : Bool) (x : LampReport × Nat) (s : State) : State :=
  let t := lampReport i x.1 (modNode addr (fun r => { r with baseline := .motion x.2 }) s)
  match first, (node s addr).baseline with
  | false, .motion b =>
    let n := (x.2 + 256 - b) % 256
    if n = 0 then t else motionIncrease i n t
  | _, _ => t

/-- A report handed on by the ring interface: discarded before the map is built, from an address of kind NONE and when
malformed, and otherwise accepted: liveness first, then the contents (R23). -/
def report (source : Nat) (payload : List Byte) (s : State) : State :=
  if !running s || decide (223 < source) then s
  else match (node s source).equipment with
    | none => s
    | some (k, i) =>
      let first := decide ((node s source).liveness ≠ .live)
      match k with
      | .gas =>
        match parseGas payload with
        | some x => acceptGas i source first x (hear k source s)
        | none => s
      | .bay =>
        match parseCluster payload with
        | some x => clusterReport i x (hear k source s)
        | none => s
      | .lane =>
        match parseLane payload with
        | some x => acceptLane i source first x (hear k source s)
        | none => s
      | .fan =>
        match parseDrive payload with
        | some x => acceptDrive i x (hear k source s)
        | none => s
      | .luminaire =>
        match parseLuminaire payload with
        | some x => acceptLuminaire i source first x (hear k source s)
        | none => s
      | .sign => hear k source s

/-! ## Silence (R25, R35, R36) -/

/-- What silence means to the block that owns the equipment (R35, R36, R92, R102, R127). A gas sensor's exclusion is read
from its liveness at each evaluation (R57). -/
def silenceEffect (k : NodeKind) (i : Nat) (s : State) : State :=
  match k with
  | .bay => clusterSilent i s
  | .fan => stopTestTimers i s
  | .luminaire => modGroup i (fun r => { r with lamp := { r.lamp with timer := none } }) s
  | .gas | .lane | .sign => s

/-- A LIVE node's silence timer has expired (R25): SILENT, the timer stopped, the baseline absent, the silence effect and
NODE_SILENT. -/
def nodeSilenced (addr : Nat) (s : State) : State :=
  let t := modNode addr (fun r => { r with liveness := .silent, silenceTimer := none, baseline := .absent }) s
  let u := match (node s addr).equipment with
    | some (k, i) => silenceEffect k i t
    | none => t
  presence .nodeSilent addr u

end Sys2Proof.Machine
end

