-- ==== Sys2Proof/Machine/Operands.lean ====
section
/-! DEFINITION. Machine/Operands.lean: what requests and table entries look like on the ring (R160, R162, R166): the codes
of every named value, the entry codecs of every table, and the request a payload spells. -/

namespace Sys2Proof.Machine

/-! ## Codes -/

/-- yes or no (R166). -/
def boolCode (b : Bool) : Nat := if b then 1 else 0

/-- Direction codes (3.2). -/
def directionCode : Direction → Nat
  | .forward => 0 | .reverse => 1

/-- Arrow codes (3.2). -/
def arrowCode : Arrow → Nat
  | .none => 0 | .left => 1 | .right => 2 | .ahead => 3 | .upRamp => 4 | .downRamp => 5

/-- The arrow of a code. -/
def arrowOfCode : Nat → Option Arrow
  | 0 => some .none | 1 => some .left | 2 => some .right | 3 => some .ahead | 4 => some .upRamp | 5 => some .downRamp
  | _ => Option.none

/-- Sign mode codes (3.2). -/
def modeCode : SignMode → Nat
  | .number _ => 0 | .full => 1 | .closed => 2 | .exit => 3

/-- Response mode codes, in the order 8.2 lists the modes. -/
def responseModeCode : Mode → Nat
  | .latch => 0 | .retry => 1 | .report => 2 | .ignore => 3

/-- The response mode of a code. -/
def responseModeOfCode : Nat → Option Mode
  | 0 => some .latch | 1 => some .retry | 2 => some .report | 3 => some .ignore | _ => none

/-- Response action codes, in the order 8.2 lists the actions. -/
def actionCode : Action → Nat
  | .stop => 0 | .release => 1

/-- The response action of a code. -/
def actionOfCode : Nat → Option Action
  | 0 => some .stop | 1 => some .release | _ => none

/-- Plan action codes (9.3). -/
def planActionCode : PlanAction → Nat
  | .runForward => 0 | .runReverse => 1 | .stop => 2 | .leave => 3

/-- The plan action of a code. -/
def planActionOfCode : Nat → Option PlanAction
  | 0 => some .runForward | 1 => some .runReverse | 2 => some .stop | 3 => some .leave | _ => none

/-! ## Reading entries (R166, R168)

A reader takes bytes from the front and notes whether a field was clamped. It fails where the bytes are too few, a code is
outside its set, or a list is not of an allowed length: in each case the entry is bad (R168). -/

/-- A reader of entry fields: the bytes left, and whether a field was clamped so far. -/
abbrev Reader := StateT (List Byte × Bool) Option

/-- One byte. -/
def readByte : Reader Nat := fun p =>
  match p.1 with
  | [] => none
  | b :: rest => some (b.toNat, rest, p.2)

/-- A numeric field: 1 byte if its range fits in 0..255 and 2 bytes otherwise, clamped to the nearer end (R166, R168). -/
def readNum (lo hi : Nat) : Reader Nat := do
  let raw ← if hi ≤ 255 then readByte else do
    let h ← readByte
    let l ← readByte
    pure (h * 256 + l)
  fun p => some (clamp lo hi raw, p.1, p.2 || decide (clamp lo hi raw ≠ raw))

/-- A code field that must be one of the codes of a set (R168). -/
def readCode {α : Type} (f : Nat → Option α) : Reader α := do
  let n ← readByte
  fun p => (f n).map fun x => (x, p)

/-- A yes or no field. -/
def readBool : Reader Bool := readCode fun n => if n = 0 then some false else if n = 1 then some true else none

/-- An IN level or OUT level: 255 is none, and any other value is a level clamped to 0..7 (R97, R166). -/
def readLevel : Reader (Option Nat) := do
  let n ← readByte
  fun p => if n = 255 then some (none, p) else some (some (clamp 0 7 n), p.1, p.2 || decide (7 < n))

/-- So many items of a list. -/
def readMany {α : Type} (item : Reader α) : Nat → Reader (List α)
  | 0 => pure []
  | n + 1 => do
    let x ← item
    let xs ← readMany item n
    pure (x :: xs)

/-- A list preceded by its count, which must lie in `1..most` (R166, R168). -/
def readList {α : Type} (most : Nat) (item : Reader α) : Reader (List α) := do
  let n ← readByte
  if 1 ≤ n ∧ n ≤ most then readMany item n else fun _ => none

/-- A source item of a sign: kind and index, its index not clamped (R166, R168). -/
def readSource : Reader SignSource := do
  let k ← readByte
  let i ← readByte
  fun p =>
    if k = 0 ∧ i ≤ 63 then some (.row i, p)
    else if k = 1 ∧ i ≤ 7 then some (.level i, p)
    else none

/-- A trigger item of a group: kind and index, 0 for OWN_MOTION, its index not clamped (R166, R168). -/
def readTrigger : Reader Trigger := do
  let k ← readByte
  let i ← readByte
  fun p =>
    if k = 0 ∧ i ≤ 63 then some (.row i, p)
    else if k = 1 ∧ i ≤ 31 then some (.lane i, p)
    else if k = 2 ∧ i = 0 then some (.ownMotion, p)
    else none

/-- A numeric field as it travels. -/
def writeNum (hi n : Nat) : List Byte := if hi ≤ 255 then [b8 n] else b16 n

/-- A yes or no field as it travels. -/
def writeBool (b : Bool) : List Byte := [b8 (boolCode b)]

/-- An IN level or OUT level as it travels. -/
def writeLevel : Option Nat → List Byte
  | none => [b8 255]
  | some l => [b8 l]

/-- A source item as it travels. -/
def writeSource : SignSource → List Byte
  | .row r => [b8 0, b8 r]
  | .level l => [b8 1, b8 l]

/-- A trigger item as it travels. -/
def writeTrigger : Trigger → List Byte
  | .row r => [b8 0, b8 r]
  | .lane l => [b8 1, b8 l]
  | .ownMotion => [b8 2, b8 0]

/-! ### ZONES (4.3) -/

/-- Read a ZONES entry. -/
def readZone : Reader ZoneEntry := do
  let level ← readNum 0 7
  let coFull ← readNum 10 500
  let no2Full ← readNum 5 200
  let shift ← readNum 1 6
  let substitute ← readNum 0 1000
  let floor ← readNum 0 1000
  let trafficFactor ← readNum 0 255
  let decay ← readNum 0 255
  let up1 ← readNum 1 1000
  let up2 ← readNum 1 1000
  let up3 ← readNum 1 1000
  let dn1 ← readNum 0 999
  let dn2 ← readNum 0 999
  let dn3 ← readNum 0 999
  let airOff ← readNum 0 100
  let airLow ← readNum 0 100
  let airMid ← readNum 0 100
  let airHigh ← readNum 0 100
  let dwell ← readNum 1 20
  let alarm ← readNum 0 1000
  let lightForce ← readNum 0 1000
  pure { level, coFull, no2Full, shift, substitute, floor, trafficFactor, decay, up1, up2, up3, dn1, dn2, dn3,
         airOff, airLow, airMid, airHigh, dwell, alarm, lightForce }

/-- Write a ZONES entry. -/
def writeZone (e : ZoneEntry) : List Byte :=
  writeNum 7 e.level ++ writeNum 500 e.coFull ++ writeNum 200 e.no2Full ++ writeNum 6 e.shift
    ++ writeNum 1000 e.substitute ++ writeNum 1000 e.floor ++ writeNum 255 e.trafficFactor ++ writeNum 255 e.decay
    ++ writeNum 1000 e.up1 ++ writeNum 1000 e.up2 ++ writeNum 1000 e.up3
    ++ writeNum 999 e.dn1 ++ writeNum 999 e.dn2 ++ writeNum 999 e.dn3
    ++ writeNum 100 e.airOff ++ writeNum 100 e.airLow ++ writeNum 100 e.airMid ++ writeNum 100 e.airHigh
    ++ writeNum 20 e.dwell ++ writeNum 1000 e.alarm ++ writeNum 1000 e.lightForce

/-! ### GASSENSORS, BAYS, ROWS, BAYCLUSTERS, LEVELS -/

/-- Read a GASSENSORS entry (4.1). -/
def readGas : Reader GasEntry := do
  let addr ← readNum 0 223
  let zone ← readNum 0 15
  pure { addr, zone }

/-- Write a GASSENSORS entry. -/
def writeGas (e : GasEntry) : List Byte := writeNum 223 e.addr ++ writeNum 15 e.zone

/-- Read a BAYS entry (6.1). -/
def readBay : Reader BayEntry := do
  let row ← readNum 0 63
  let held ← readBool
  pure { row, held }

/-- Write a BAYS entry. -/
def writeBay (e : BayEntry) : List Byte := writeNum 63 e.row ++ writeBool e.held

/-- Read a ROWS entry (6.1). -/
def readRow : Reader RowEntry := do
  let level ← readNum 0 7
  let zone ← readNum 0 15
  pure { level, zone }

/-- Write a ROWS entry. -/
def writeRow (e : RowEntry) : List Byte := writeNum 7 e.level ++ writeNum 15 e.zone

/-- Read a BAYCLUSTERS entry (6.1). -/
def readCluster : Reader ClusterEntry := do
  let addr ← readNum 0 223
  let first ← readNum 0 2047
  let count ← readNum 1 8
  pure { addr, first, count }

/-- Write a BAYCLUSTERS entry. -/
def writeCluster (e : ClusterEntry) : List Byte := writeNum 223 e.addr ++ writeNum 2047 e.first ++ writeNum 8 e.count

/-- Read a LEVELS entry (6.1). -/
def readLevels : Reader LevelEntry := do
  let closure ← readNum 1 1000
  let release ← readNum 0 999
  let transit ← readNum 30 900
  pure { closure, release, transit }

/-- Write a LEVELS entry. -/
def writeLevels (e : LevelEntry) : List Byte :=
  writeNum 1000 e.closure ++ writeNum 999 e.release ++ writeNum 900 e.transit

/-! ### FANS, LANES, SIGNS, GROUPS -/

/-- Read a FANS entry (5.1). -/
def readFan : Reader FanEntry := do
  let addr ← readNum 0 223
  let zone ← readNum 0 15
  let ratedFlow ← readNum 1 500
  let minSpeed ← readNum 10 60
  let rampStep ← readNum 1 100
  let stallRatio ← readNum 10 90
  let stallTime ← readNum 5 120
  let noLoadCurrent ← readNum 0 500
  let noLoadTime ← readNum 5 300
  let overMargin ← readNum 5 50
  let overTime ← readNum 5 120
  pure { addr, zone, ratedFlow, minSpeed, rampStep, stallRatio, stallTime, noLoadCurrent, noLoadTime, overMargin,
         overTime }

/-- Write a FANS entry. -/
def writeFan (e : FanEntry) : List Byte :=
  writeNum 223 e.addr ++ writeNum 15 e.zone ++ writeNum 500 e.ratedFlow ++ writeNum 60 e.minSpeed
    ++ writeNum 100 e.rampStep ++ writeNum 90 e.stallRatio ++ writeNum 120 e.stallTime
    ++ writeNum 500 e.noLoadCurrent ++ writeNum 300 e.noLoadTime ++ writeNum 50 e.overMargin ++ writeNum 120 e.overTime

/-- Read a LANES entry (6.1). -/
def readLane : Reader LaneEntry := do
  let addr ← readNum 0 223
  let zone ← readNum 0 15
  let inLevel ← readLevel
  let outLevel ← readLevel
  let passThrough ← readBool
  let increment ← readNum 0 255
  let jumpLimit ← readNum 1 64
  pure { addr, zone, inLevel, outLevel, passThrough, increment, jumpLimit }

/-- Write a LANES entry. -/
def writeLane (e : LaneEntry) : List Byte :=
  writeNum 223 e.addr ++ writeNum 15 e.zone ++ writeLevel e.inLevel ++ writeLevel e.outLevel ++ writeBool e.passThrough
    ++ writeNum 255 e.increment ++ writeNum 64 e.jumpLimit

/-- Read a SIGNS entry (6.1). -/
def readSign : Reader SignEntry := do
  let addr ← readNum 0 223
  let sources ← readList 8 readSource
  let holdback ← readNum 0 99
  let fullThreshold ← readNum 0 99
  let arrowOpen ← readCode arrowOfCode
  let arrowFull ← readCode arrowOfCode
  let arrowFire ← readCode arrowOfCode
  pure { addr, sources, holdback, fullThreshold, arrowOpen, arrowFull, arrowFire }

/-- Write a SIGNS entry. -/
def writeSign (e : SignEntry) : List Byte :=
  writeNum 223 e.addr ++ [b8 e.sources.length] ++ e.sources.flatMap writeSource ++ writeNum 99 e.holdback
    ++ writeNum 99 e.fullThreshold ++ [b8 (arrowCode e.arrowOpen), b8 (arrowCode e.arrowFull), b8 (arrowCode e.arrowFire)]

/-- Read a GROUPS entry (7.1). -/
def readGroup : Reader GroupEntry := do
  let addr ← readNum 0 223
  let zone ← readNum 0 15
  let level ← readNum 0 7
  let triggers ← readList 8 readTrigger
  let base ← readNum 0 100
  let full ← readNum 0 100
  let holdTime ← readNum 5 3600
  let fadeStep ← readNum 1 100
  let lampThreshold ← readNum 0 5000
  let lampTime ← readNum 5 300
  let motionIncrement ← readNum 0 255
  pure { addr, zone, level, triggers, base, full, holdTime, fadeStep, lampThreshold, lampTime, motionIncrement }

/-- Write a GROUPS entry. -/
def writeGroup (e : GroupEntry) : List Byte :=
  writeNum 223 e.addr ++ writeNum 15 e.zone ++ writeNum 7 e.level ++ [b8 e.triggers.length]
    ++ e.triggers.flatMap writeTrigger ++ writeNum 100 e.base ++ writeNum 100 e.full ++ writeNum 3600 e.holdTime
    ++ writeNum 100 e.fadeStep ++ writeNum 5000 e.lampThreshold ++ writeNum 300 e.lampTime
    ++ writeNum 255 e.motionIncrement

/-! ### RESPONSES and PLAN -/

/-- Read a RESPONSES entry (8.2). -/
def readResponse : Reader ResponseEntry := do
  let mode ← readCode responseModeOfCode
  let action ← readCode actionOfCode
  let interval ← readNum 5 3600
  let limit ← readNum 1 15
  pure { mode, action, interval, limit }

/-- Write a RESPONSES entry. -/
def writeResponse (e : ResponseEntry) : List Byte :=
  [b8 (responseModeCode e.mode), b8 (actionCode e.action)] ++ writeNum 3600 e.interval ++ writeNum 15 e.limit

/-- Read a PLAN entry (9.3). -/
def readPlan : Reader PlanEntry := do
  let action ← readCode planActionOfCode
  let speed ← readNum 10 100
  let delay ← readNum 0 60
  pure { action, speed, delay }

/-- Write the three fields of a PLAN entry. -/
def writePlan (e : PlanEntry) : List Byte :=
  [b8 (planActionCode e.action)] ++ writeNum 100 e.speed ++ writeNum 60 e.delay

/-! ### CONTROL, in its five parts (10.4) -/

/-- Read CONTROL part 0 into a CONTROL table. -/
def readControl0 (c : Control) : Reader Control := do
  let hops ← readNum 8 255
  let ringSilence ← readNum 1 30
  let silenceGas ← readNum 1 60
  let silenceBay ← readNum 1 60
  let silenceLane ← readNum 1 60
  let silenceFan ← readNum 1 60
  let silenceLuminaire ← readNum 1 60
  let silenceSign ← readNum 1 60
  let returnTimeout ← readNum 100 2000
  let resendInterval ← readNum 2 100
  let bayIncrement ← readNum 0 255
  let evaluationPeriod ← readNum 2 60
  let baySettle ← readNum 0 30
  let signInterval ← readNum 5 300
  pure { c with
    hops := hops, ringSilence := ringSilence, silenceGas := silenceGas, silenceBay := silenceBay
    silenceLane := silenceLane, silenceFan := silenceFan, silenceLuminaire := silenceLuminaire
    silenceSign := silenceSign, returnTimeout := returnTimeout, resendInterval := resendInterval
    bayIncrement := bayIncrement, evaluationPeriod := evaluationPeriod, baySettle := baySettle
    signInterval := signInterval }

/-- Write CONTROL part 0. -/
def writeControl0 (c : Control) : List Byte :=
  writeNum 255 c.hops ++ writeNum 30 c.ringSilence ++ writeNum 60 c.silenceGas ++ writeNum 60 c.silenceBay
    ++ writeNum 60 c.silenceLane ++ writeNum 60 c.silenceFan ++ writeNum 60 c.silenceLuminaire
    ++ writeNum 60 c.silenceSign ++ writeNum 2000 c.returnTimeout ++ writeNum 100 c.resendInterval
    ++ writeNum 255 c.bayIncrement ++ writeNum 60 c.evaluationPeriod ++ writeNum 30 c.baySettle
    ++ writeNum 300 c.signInterval

/-- Read CONTROL part 1: panel address, manager list and flag enables. -/
def readControl1 (c : Control) : Reader Control := do
  let panel ← readNum 1 239
  let managers ← readList 4 (readNum 1 239)
  let enables ← readMany readBool 10
  pure { c with
    panel := panel, managers := managers, enables := Vector.ofFn fun i : Fin 10 => enables.getD i.val false }

/-- Write CONTROL part 1. -/
def writeControl1 (c : Control) : List Byte :=
  writeNum 239 c.panel ++ [b8 c.managers.length] ++ c.managers.map b8 ++ c.enables.toList.flatMap writeBool

/-- Read the CONTROL fields of one group address. -/
def readGroupAddress : Reader GroupAddress := do
  let defined ← readBool
  let low ← readNum 1 223
  let high ← readNum 1 223
  let luminaires ← readBool
  pure { defined, low, high, luminaires }

/-- Write the CONTROL fields of one group address. -/
def writeGroupAddress (a : GroupAddress) : List Byte :=
  writeBool a.defined ++ writeNum 223 a.low ++ writeNum 223 a.high ++ writeBool a.luminaires

/-- Read CONTROL part 2, 3 or 4: five group addresses from `base` on (as places of the group address list). -/
def readControlGroups (base : Nat) (c : Control) : Reader Control := do
  let gs ← readMany readGroupAddress 5
  let place (i : Fin 15) : GroupAddress :=
    if base ≤ i.val ∧ i.val < base + 5 then gs.getD (i.val - base) (getAt c.groupAddresses i.val)
    else getAt c.groupAddresses i.val
  pure { c with groupAddresses := Vector.ofFn place }

/-- Write CONTROL part 2, 3 or 4. -/
def writeControlGroups (base : Nat) (c : Control) : List Byte :=
  (List.range 5).flatMap fun k => writeGroupAddress (getAt c.groupAddresses (base + k))

/-- Read one part of CONTROL, given the table as it stands (R166). -/
def readControl (part : Nat) (c : Control) : Reader Control :=
  match part with
  | 0 => readControl0 c
  | 1 => readControl1 c
  | 2 => readControlGroups 0 c
  | 3 => readControlGroups 5 c
  | 4 => readControlGroups 10 c
  | _ => fun _ => none

/-- Write one part of CONTROL. -/
def writeControl (part : Nat) (c : Control) : List Byte :=
  match part with
  | 0 => writeControl0 c
  | 1 => writeControl1 c
  | 2 => writeControlGroups 0 c
  | 3 => writeControlGroups 5 c
  | 4 => writeControlGroups 10 c
  | _ => []

/-! ## Tables by id (R164) -/

/-- The last index of a table, for the ids 0..13 (R164). -/
def lastIndex (table : Nat) : Nat :=
  match table with
  | 0 => 4 | 1 => 15 | 2 => 63 | 3 => 47 | 4 => 255 | 5 => 2047 | 6 => 63 | 7 => 7 | 8 => 31 | 9 => 47 | 10 => 95
  | 11 => 9 | 12 => 47 | _ => 63

/-- The table id of FAULTS. -/
def faultsTable : Nat := 13

/-- The table id of PLAN. -/
def planTable : Nat := 12

/-! ## Requests (R160, R162) -/

/-- A request as its payload spells it. -/
inductive Req where
  | aim (table index : Nat)
  | put (table index : Nat) (entries : List Byte)
  | fetch (count : Nat)
  | keep
  | state (selector number : Nat)
  | ack (codes : List Nat)
  | clearFaults (category : Nat)
  | manual (fan speed direction : Nat)
  | auto (fan : Nat)
  | closeLevel (level : Nat)
  | openLevel (level : Nat)
  | holdBays (first count held : Nat)
  | fireOn
  | fireOff
  | lockPlan
  | unlockPlan
  | askNode (node op id value : Nat)
  | restart
  | unknown
deriving DecidableEq, Repr, Inhabited

/-- The request a payload spells; one whose code or length does not fit is unknown (R160, R162). -/
def parseRequest (payload : List Byte) : Req :=
  match payload with
  | [] => .unknown
  | c :: args =>
    match c.toNat, args with
    | 1, [t, h, l] => .aim t.toNat (word h l)
    | 2, t :: h :: l :: e :: es => .put t.toNat (word h l) (e :: es)
    | 3, [n] => .fetch n.toNat
    | 4, [] => .keep
    | 5, [sel, n] => .state sel.toNat n.toNat
    | 6, n :: codes => if codes.length = n.toNat then .ack (codes.map (·.toNat)) else .unknown
    | 7, [k] => .clearFaults k.toNat
    | 8, [f, sp, d] => .manual f.toNat sp.toNat d.toNat
    | 9, [f] => .auto f.toNat
    | 10, [l] => .closeLevel l.toNat
    | 11, [l] => .openLevel l.toNat
    | 12, [fh, fl, ch, cl, h] => .holdBays (word fh fl) (word ch cl) h.toNat
    | 13, [] => .fireOn
    | 14, [] => .fireOff
    | 15, [] => .lockPlan
    | 16, [] => .unlockPlan
    | 17, [n, o, i, h, l] => .askNode n.toNat o.toNat i.toNat (word h l)
    | 18, [] => .restart
    | _, _ => .unknown

/-! ## Command payloads (3.2) -/

/-- The payload of a setting: operation SET, setting id, and the setting's fields (3.2). -/
def settingPayload : Setting → List Byte
  | .fan x => [b8 0, b8 1, b8 x.speed, b8 (directionCode x.direction)]
  | .luminaire level => [b8 0, b8 2, b8 level]
  | .sign x =>
    let value := match x.mode with | .number v => v | _ => 0
    [b8 0, b8 3, b8 (modeCode x.mode)] ++ b16 value ++ [b8 (arrowCode x.arrow)]

/-- The payload of the proxy frame: operation, setting id and value (3.2). -/
def proxyPayload (op id value : Nat) : List Byte := [b8 op, b8 id] ++ b16 value

end Sys2Proof.Machine
end

