-- ==== Sys2Proof/Machine/Tables.lean ====
section
/-! DEFINITION. Machine/Tables.lean: writing one entry of each table, with the checks and the effects its chapter gives (R16,
R22, R50, R59, R74, R92, R95 to R98, R118, R127, R133, R145, R152, R155, R168), and reading one entry (R147, R152, R169). -/

namespace Sys2Proof.Machine

/-! ## A changed node address -/

/-- Command delivery adjusts the record of an actuator whose node address changed (R50). The entry is already written. -/
def moveActuator (a : Actuator) (old new : Nat) (s : State) : State :=
  let r := { s.record a with lastTaken := none, attempts := 0 }
  let t := endNoTake old (s.setRecord a r)
  let u := { t with ring := { t.ring with insertion := readdressQueue a new t.ring.insertion } }
  if new = 0 then withdraw a u
  else if old = 0 ∧ r.state = .idle ∧ r.desired ≠ none then offerRecord a u
  else u

/-- The fan block's part of a changed node address: every condition ends with the old address, the timers stop, and the
reported values become absent (R92). -/
def fanMoved (old i : Nat) (s : State) : State :=
  let t := clearTests old i s
  let was := (fan t i).trip
  let u := modFan i (fun r => { r with trip := false, reported := none }) t
  if was then endCondition .fanDriveTrip old u else u

/-- A fan held by the plan whose entry now names no node has its setting set again (R155). -/
def resetHeldFan (i : Nat) (s : State) : State :=
  if (fan s i).held then
    setFan i (if getAt s.fire.startTimers i = .expired then planSetting s i else (fan s i).commanded) s
  else s

/-- The lighting block's part of a changed driver address (R127). -/
def groupMoved (old i : Nat) (s : State) : State :=
  modGroup i (fun r => { r with reported := none }) (clearLamp old i s)

/-! ## Checks of the tables' own chapters (R168, step 4) -/

/-- Threshold order of a ZONES entry (R59). -/
def zoneOrdered (e : ZoneEntry) : Bool :=
  decide (e.dn1 < e.up1) && decide (e.dn2 < e.up2) && decide (e.dn3 < e.up3) && decide (e.up1 < e.up2)
    && decide (e.up2 < e.up3)

/-- A BAYCLUSTERS entry claims a bay that another entry in use claims (R95). -/
def clusterOverlaps (t : Settings) (i : Nat) (e : ClusterEntry) : Bool :=
  decide (e.addr ≠ 0) && (List.range 256).any fun j =>
    let o := getAt t.clusters j
    decide (j ≠ i) && decide (o.addr ≠ 0) && (clusterRange e).any fun b => decide (b ∈ clusterRange o)

/-- A CONTROL part may be written: no manager named twice, no group range with its low above its high (R16, R168). -/
def controlValid (c : Control) : Bool :=
  decide c.managers.Nodup && (List.range 15).all fun k => decide ((getAt c.groupAddresses k).low ≤ (getAt c.groupAddresses k).high)

/-! ## Writing one entry -/

/-- Replace the working tables by a function of them. -/
def modTables (f : Settings → Settings) (s : State) : State := { s with tables := f s.tables }

/-- Write CONTROL; a write of the flag enables has ALERT judged again (R145). -/
def putControl (c : Control) (s : State) : State := judgeAlert (modTables (fun t => { t with control := c }) s)

/-- Write a ZONES entry (R59). -/
def putZone (i : Nat) (e : ZoneEntry) (s : State) : State := modTables (fun t => { t with zones := setAt t.zones i e }) s

/-- Write a GASSENSORS entry (R22, R53). -/
def putGas (i : Nat) (e : GasEntry) (s : State) : State :=
  let old := (getAt s.tables.gasSensors i).addr
  let t := modTables (fun t => { t with gasSensors := setAt t.gasSensors i e }) s
  if e.addr = old then t else moveNode .gas i old e.addr t

/-- Write a FANS entry (R22, R50, R74, R92, R140, R155). -/
def putFan (i : Nat) (e : FanEntry) (s : State) : State :=
  let old := fanAddress s i
  let t := modTables (fun t => { t with fans := setAt t.fans i e }) s
  if e.addr = old then t
  else
    let u := judgeEquipment .fan i (fanMoved old i (moveNode .fan i old e.addr (moveActuator (.fan i) old e.addr t)))
    if e.addr = 0 then resetHeldFan i u else u

/-- A bay of a cluster's changed range starts again from UNKNOWN (R95). -/
def bayForgotten (b : Nat) (s : State) : State := modBay b (fun r => { r with lastReported := none }) (bayUnknown b s)

/-- Write a BAYCLUSTERS entry (R22, R95). -/
def putCluster (i : Nat) (e : ClusterEntry) (s : State) : State :=
  let old := getAt s.tables.clusters i
  let t := modTables (fun t => { t with clusters := setAt t.clusters i e }) s
  if e = old then t
  else
    let was := getAt t.guide.clusterFault i
    let u := forList (clusterRange old ++ clusterRange e) bayForgotten t
    let v := { u with guide := { u.guide with clusterFault := setAt u.guide.clusterFault i false } }
    let w := if was then endCondition .baySensorFault old.addr v else v
    refreshSigns (recount (if e.addr = old.addr then w else moveNode .bay i old.addr e.addr w))

/-- Write a BAYS entry (R96). -/
def putBay (i : Nat) (e : BayEntry) (s : State) : State :=
  refreshSigns (recount (modTables (fun t => { t with bays := setAt t.bays i e }) s))

/-- Write a ROWS entry (R96). -/
def putRow (i : Nat) (e : RowEntry) (s : State) : State :=
  refreshSigns (recount (modTables (fun t => { t with rows := setAt t.rows i e }) s))

/-- Write a LEVELS entry; a changed transit timeout judges every entry of the list at once (R97, R107). -/
def putLevel (i : Nat) (e : LevelEntry) (s : State) : State :=
  let old := (getAt s.tables.levels i).transit
  let t := modTables (fun t => { t with levels := setAt t.levels i e }) s
  if e.transit = old then t else refreshSigns (ageLevel i t)

/-- Write a LANES entry (R22, R97). -/
def putLane (i : Nat) (e : LaneEntry) (s : State) : State :=
  let old := (getAt s.tables.lanes i).addr
  let t := modTables (fun t => { t with lanes := setAt t.lanes i e }) s
  if e.addr = old then t else moveNode .lane i old e.addr t

/-- Write a SIGNS entry: the sign is computed anew at once (R22, R50, R98, R140). -/
def putSign (i : Nat) (e : SignEntry) (s : State) : State :=
  let old := (getAt s.tables.signs i).addr
  let t := modTables (fun t => { t with signs := setAt t.signs i e }) s
  let u :=
    if e.addr = old then t
    else
      let u := moveNode .sign i old e.addr (moveActuator (.sign i) old e.addr t)
      judgeEquipment .sign i
        { u with guide := { u.guide with signs := modAt u.guide.signs i fun r => { r with lastSent := none } } }
  computeSign i u

/-- Write a GROUPS entry (R22, R50, R118, R122, R127, R140). -/
def putGroup (i : Nat) (e : GroupEntry) (s : State) : State :=
  let old := groupEntry s i
  let t := modTables (fun t => { t with groups := setAt t.groups i e }) s
  let u := if e.zone = old.zone then t else judgeGroupZone i t
  if e.addr = old.addr then u
  else
    judgeEquipment .luminaire i
      (groupMoved old.addr i (moveNode .luminaire i old.addr e.addr (moveActuator (.group i) old.addr e.addr u)))

/-- The mode IGNORE for FAN_DRIVE_TRIP or RING_SILENT is written as REPORT (R133). -/
def responseWritten (i : Nat) (e : ResponseEntry) : ResponseEntry :=
  if (i = 3 ∨ i = 9) ∧ e.mode = .ignore then { e with mode := .report } else e

/-- Write a RESPONSES entry; a changed action has the fans judged again at once (R133). -/
def putResponse (i : Nat) (e : ResponseEntry) (s : State) : State :=
  let old := (getAt s.tables.responses i).action
  let t := modTables (fun t => { t with responses := setAt t.responses i e }) s
  if e.action = old then t else forEach 48 (judgeEquipment .fan) t

/-- Write a PLAN entry (R152). -/
def putPlan (i : Nat) (e : PlanEntry) (s : State) : State :=
  { s with fire := { s.fire with plan := setAt s.fire.plan i e } }

/-- What examining one entry of a PUT comes to: the state with it written, whether a field was clamped, the bytes left. -/
abbrev Written := State × Bool × List Byte

/-- One entry read, checked and written; none when it is bad (R168). -/
def putEntry {α : Type} (r : Reader α) (valid : α → Bool) (write : α → State → State) (bytes : List Byte) (s : State) :
    Option Written :=
  match r (bytes, false) with
  | none => none
  | some (e, rest, clamped) => if valid e then some (write e s, clamped, rest) else none

/-- One entry of a table by its id (R164, R168). -/
def writeEntry (table i : Nat) (bytes : List Byte) (s : State) : Option Written :=
  let t := s.tables
  match table with
  | 0 => putEntry (readControl i t.control) controlValid putControl bytes s
  | 1 => putEntry readZone zoneOrdered (putZone i) bytes s
  | 2 => putEntry readGas (fun e => !namedByAnother t .gas i e.addr) (putGas i) bytes s
  | 3 => putEntry readFan (fun e => !namedByAnother t .fan i e.addr) (putFan i) bytes s
  | 4 => putEntry readCluster (fun e => !namedByAnother t .bay i e.addr && !clusterOverlaps t i e) (putCluster i) bytes s
  | 5 => putEntry readBay (fun _ => true) (putBay i) bytes s
  | 6 => putEntry readRow (fun _ => true) (putRow i) bytes s
  | 7 => putEntry readLevels (fun e => decide (e.release < e.closure)) (putLevel i) bytes s
  | 8 => putEntry readLane (fun e => !namedByAnother t .lane i e.addr) (putLane i) bytes s
  | 9 => putEntry readSign (fun e => decide e.sources.Nodup && !namedByAnother t .sign i e.addr) (putSign i) bytes s
  | 10 => putEntry readGroup (fun e => decide e.triggers.Nodup && !namedByAnother t .luminaire i e.addr) (putGroup i) bytes s
  | 11 =>
    match readResponse (bytes, false) with
    | none => none
    | some (e, rest, clamped) =>
      let w := responseWritten i e
      some (putResponse i w s, clamped || decide (w ≠ e), rest)
  | 12 => putEntry readPlan (fun _ => true) (putPlan i) bytes s
  | _ => none

/-! ## Reading one entry -/

/-- Fault record states as codes, in the order of R134. -/
def recordStateCode : RecordState → Nat
  | .active => 0 | .out => 1 | .latched => 2 | .ended => 3

/-- A FAULTS entry as it is read (R147, 10.4): an entry beyond the last record gives class NONE and no other field. -/
def readFaults (i : Nat) (s : State) : List Byte :=
  match s.faults.list[i]? with
  | none => [Config.classNoneByte]
  | some r =>
    [b8 (classCode r.cls), b8 r.addr, b8 (recordStateCode r.state), b8 (boolCode r.present), b8 r.retries,
      b8 r.occurrences] ++ b32 r.firstTime ++ b32 r.lastTime
      ++ b16 (match r.timer with | some e => tenthsLeft s.clock e | none => 65535) ++ [b8 (boolCode r.overridden)]

/-- A PLAN entry as it is read: its fields, the plan lock, and the start timer (R152). -/
def readPlanEntry (i : Nat) (s : State) : List Byte :=
  writePlan (getAt s.fire.plan i) ++ writeBool s.fire.planLock
    ++ b16 (match getAt s.fire.startTimers i with
      | .running e => tenthsLeft s.clock e
      | .expired => 65534
      | .stopped => 65535)

/-- One entry of a table as a FETCH gives it (R166, R169). -/
def entryBytes (table i : Nat) (s : State) : List Byte :=
  let t := s.tables
  match table with
  | 0 => writeControl i t.control
  | 1 => writeZone (getAt t.zones i)
  | 2 => writeGas (getAt t.gasSensors i)
  | 3 => writeFan (getAt t.fans i)
  | 4 => writeCluster (getAt t.clusters i)
  | 5 => writeBay (getAt t.bays i)
  | 6 => writeRow (getAt t.rows i)
  | 7 => writeLevels (getAt t.levels i)
  | 8 => writeLane (getAt t.lanes i)
  | 9 => writeSign (getAt t.signs i)
  | 10 => writeGroup (getAt t.groups i)
  | 11 => writeResponse (getAt t.responses i)
  | 12 => readPlanEntry i s
  | _ => readFaults i s

/-- The bytes an entry counts for in the 40 of a FETCH reply: a FAULTS entry counts 17, the table of 10.4 giving at most two
of them to a FETCH. -/
def entrySize (table i : Nat) (s : State) : Nat := if table = faultsTable then 17 else (entryBytes table i s).length

/-- How many entries from index `i` on a FETCH reads, with so many asked for, so many up to the table end and so many of the
40 bytes left (R169). -/
def fetchCount (table : Nat) (s : State) : Nat → Nat → Nat → Nat
  | 0, _, _ => 0
  | n + 1, i, room =>
    if lastIndex table < i ∨ room < entrySize table i s then 0
    else fetchCount table s n (i + 1) (room - entrySize table i s) + 1

end Sys2Proof.Machine
end

