-- ==== Sys2Proof/Machine/Views.lean ====
section
/-! DEFINITION. Machine/Views.lean: the STATE views (R18, R72, R93, R116, R130, R147), their fields in the order of their
tables, encoded as table entries are (R166, R171). Named values without a stated code take their place in the manual's list,
from 0, but of two that say set or clear, present or absent, active or released, busy or idle the first is 1; what the
manual gives as absent without a code is a free value of the field's width. -/

namespace Sys2Proof.Machine

/-- A field that is absent, of so many bytes: a free value. -/
def absent (view field width : Nat) : List Byte := (List.range width).map (Config.absentByte view field)

/-- A field that may be absent. -/
def optField {α : Type} (view field width : Nat) (enc : α → List Byte) : Option α → List Byte
  | some x => enc x
  | none => absent view field width

/-- A set of codes: its count and its members. -/
def codeSet (codes : List Nat) : List Byte := b8 codes.length :: codes.map b8

/-- The places, from 0, at which a list of marks holds yes. -/
def marked (marks : List Bool) : List Nat := (List.range marks.length).filter fun i => marks.getD i false

/-- A timer's time to expiry in 0.1 s, in two bytes. -/
def timerField (view field clock : Nat) : Timer → List Byte := optField view field 2 fun e => b16 (tenthsLeft clock e)

/-- Liveness codes: UNHEARD, LIVE, SILENT. -/
def livenessCode : Liveness → Nat
  | .unheard => 0 | .live => 1 | .silent => 2

/-- Stage codes: OFF, LOW, MID, HIGH. -/
def stageCode (st : Stage) : Nat := st.rank

/-- Delivery state codes, in the order of the views: IDLE, QUEUED, IN_FLIGHT, RESEND_WAIT, WAITING_ROOM. -/
def deliveryStateCode : DeliveryState → Nat
  | .idle => 0 | .queued => 1 | .inFlight => 2 | .resendWait => 3 | .waitingRoom => 4

/-- Group state codes: BASE, HOLD, FORCED. -/
def groupStateCode : GroupState → Nat
  | .base => 0 | .hold => 1 | .forced => 2

/-- Drive status codes (2.4). -/
def driveStatusCode : DriveStatus → Nat
  | .running => 0 | .stopped => 1 | .tripped => 2

/-- A fan setting: speed and direction. -/
def fanSettingField (x : FanSetting) : List Byte := [b8 x.speed, b8 (directionCode x.direction)]

/-- A sign setting: mode, value when NUMBER, arrow. -/
def signSettingField (view field : Nat) (x : SignSetting) : List Byte :=
  [b8 (modeCode x.mode)] ++ optField view field 2 b16 (match x.mode with | .number v => some v | _ => none)
    ++ [b8 (arrowCode x.arrow)]

/-- Node address and liveness of equipment; none for address 0. -/
def nodeField (view field : Nat) (s : State) (addr : Nat) : List Byte :=
  [b8 addr] ++ (if addr = 0 then absent view field 1 else [b8 (livenessCode (node s addr).liveness)])

/-- Delivery state and attempts. -/
def deliveryField (s : State) (a : Actuator) : List Byte :=
  [b8 (deliveryStateCode (s.record a).state), b8 (s.record a).attempts]

/-- The STATE ZONE view (R72). SHORTFALL is 1 when set and the GAS_HIGH cause 1 when present (PRESUMED, log 25). -/
def viewZone (z : Nat) (s : State) : List Byte :=
  let r := getAt s.air.zones z
  [b8 z, b8 (boolCode r.evaluated)] ++ b16 r.airIndex ++ optField 0 3 1 (fun i => [b8 i]) r.source ++ [b8 r.usable]
    ++ b16 r.load ++ b16 r.trafficIndex ++ b16 r.demand
    ++ [b8 (stageCode r.stage), b8 r.dwell, b8 r.airflow, b8 (boolCode r.shortfall), b8 (boolCode r.gasHigh)]

/-- The STATE LEVEL view (R116). -/
def viewLevel (l : Nat) (s : State) : List Byte :=
  let r := getAt s.guide.levels l
  let oldest (x : Arrival) : List Byte := b16 (tenthsSinceStart s - x.time) ++ [b8 x.lane]
  [b8 l] ++ b16 r.free ++ [b8 r.arrivals.length] ++ optField 1 3 3 oldest r.arrivals.head?
    ++ b16 r.dropped ++ b16 r.aged
    ++ codeSet (marked [r.reasons.air, r.reasons.shortfall, r.reasons.fire, r.reasons.operator])
    ++ [b8 (boolCode r.reasons.closed)]

/-- The STATE FAN view (R93). -/
def viewFan (i : Nat) (s : State) : List Byte :=
  let r := fan s i
  let taken : Option FanSetting := match (s.record (.fan i)).lastTaken with | some (.fan x) => some x | _ => none
  let reported (x : DriveReport) : List Byte :=
    [b8 x.speed] ++ b16 x.current ++ [b8 (directionCode x.direction), b8 (driveStatusCode x.status)]
  let timers := [(0, r.stall.timer), (1, r.noLoad.timer), (2, r.overspeed.timer)].filterMap fun p =>
    p.2.map fun e => (p.1, e)
  [b8 i] ++ nodeField 2 2 s (fanAddress s i) ++ [b8 (boolCode r.manualMode)] ++ fanSettingField r.manual
    ++ fanSettingField r.commanded ++ optField 2 6 2 fanSettingField taken ++ deliveryField s (.fan i)
    ++ (match r.service with
        | .inService => b8 0 :: absent 2 8 1
        | .out a => [b8 1, b8 (actionCode a)])
    ++ [b8 (boolCode r.held)] ++ optField 2 10 5 reported r.reported
    ++ codeSet (marked [r.stall.present, r.noLoad.present, r.overspeed.present, r.trip])
    ++ b8 timers.length :: timers.flatMap fun p => b8 p.1 :: b16 (tenthsLeft s.clock p.2)

/-- The STATE GROUP view (R130). LAMP_OPEN is 1 when present (PRESUMED, log 25). -/
def viewGroup (i : Nat) (s : State) : List Byte :=
  let e := groupEntry s i
  let r := group s i
  let taken : Option Nat := match (s.record (.group i)).lastTaken with | some (.luminaire n) => some n | _ => none
  [b8 i] ++ nodeField 3 2 s e.addr ++ [b8 e.zone, b8 e.level, b8 (groupStateCode r.state)]
    ++ codeSet (marked [r.causes.fire, r.causes.air, r.causes.shortfall]) ++ timerField 3 7 s.clock r.holdTimer
    ++ [b8 r.target] ++ optField 3 9 1 (fun n => [b8 n]) r.output ++ [b8 (boolCode r.out)] ++ deliveryField s (.group i)
    ++ optField 3 12 1 (fun n => [b8 n]) taken
    ++ optField 3 13 3 (fun x : LampReport => b8 x.output :: b16 x.current) r.reported
    ++ [b8 (boolCode r.lamp.present)] ++ timerField 3 15 s.clock r.lamp.timer

/-- The STATE SIGN view (R116). -/
def viewSign (i : Nat) (s : State) : List Byte :=
  let r := getAt s.guide.signs i
  let taken : Option SignSetting := match (s.record (.sign i)).lastTaken with | some (.sign x) => some x | _ => none
  [b8 i] ++ nodeField 4 2 s (getAt s.tables.signs i).addr ++ signSettingField 4 3 r.computed
    ++ optField 4 4 4 (signSettingField 4 4) r.lastSent ++ [b8 (boolCode r.pending)] ++ timerField 4 6 s.clock r.timer
    ++ [b8 (boolCode r.out)] ++ deliveryField s (.sign i) ++ optField 4 10 4 (signSettingField 4 10) taken

/-- The records in a state, counted. -/
def countState (s : State) (st : RecordState) : Nat := (s.faults.list.filter fun r => decide (r.state = st)).length

/-- The store engine is busy (R178). -/
def engineBusy (s : State) : Bool := s.store.engine ≠ .idle

/-- The STATE SUMMARY view (R147). A flag and the fire latch are 1 when set, ALERT when active and the store engine when
busy (PRESUMED, log 25). The fault clock takes 4 bytes, as the two times of a FAULTS entry do (DEDUCED, log 45). -/
def viewSummary (s : State) : List Byte :=
  let masked := (List.range 10).map fun i => b8 (boolCode (getAt s.faults.flags i && getAt s.tables.control.enables i))
  masked ++ s.tables.control.enables.toList.flatMap writeBool
    ++ [b8 (boolCode s.faults.alert), b8 s.faults.list.length, b8 (countState s .active), b8 (countState s .out),
        b8 (countState s .latched), b8 (countState s .ended), b8 (boolCode s.fire.latch), b8 (boolCode (engineBusy s))]
    ++ b32 (faultClock s)

/-- The ten flags as kept (R147, R172), each 1 when set (PRESUMED, log 25). -/
def flagsField (s : State) : List Byte := s.faults.flags.toList.flatMap writeBool

/-- The STATE RING view (R18). -/
def viewRing (s : State) : List Byte :=
  [b8 s.ring.ownAddress] ++ b16 (bitRate s.ring.rate) ++ b16 s.ring.relayed ++ b16 s.ring.badCheck
    ++ b16 s.ring.hopExpiry ++ b16 s.ring.relayFull
    ++ [b8 s.ring.relayQueue.length, b8 s.ring.insertion.length, b8 s.ring.claims.length, b8 (boolCode s.ring.ringSilent)]

end Sys2Proof.Machine
end

