-- ==== Sys2Proof/Machine/Startup.lean ====
section
/-! DEFINITION. Machine/Startup.lean: power-on, the RESET line, start-up loading, a restart taking effect, and the end of a
store operation (R19, R20, R148, R159, R176 to R183). -/

namespace Sys2Proof.Machine

/-! ## Power-on and the RESET line -/

/-- A store operation cut short leaves the area it was writing bad, and the engine idle (R180). -/
def cutShort (st : Store) : Store :=
  match st.engine with
  | .idle => st
  | .busy (.keep _) _ => { st with settingsArea := .bad, engine := .idle }
  | .busy (.lock _) _ | .busy (.unlock _) _ => { st with planArea := .bad, engine := .idle }

/-- Every block at its start after power-on or the RESET line, and start-up loading begun (R19, R38, R148, R159, R181). The
waiting commands, the clock, the draw counter and the store areas stay; the working tables stand at their defaults until
loading completes. -/
def freshStart (ownAddress rate : Nat) (s : State) : State :=
  { s with
    epoch := s.clock
    phase := .loading false (s.clock + loadingTicks)
    ring := freshRing ownAddress rate s.clock .resting
    nodes := Vector.replicate 224 freshNode
    delivery := freshDelivery
    air := freshAir
    fans := Vector.replicate 48 freshFan
    guide := freshGuide
    light := freshLight defaultSettings.groups
    faults := freshFaults
    fire := freshFire
    mgmt := freshMgmt
    tables := defaultSettings
    store := cutShort s.store }

/-- The own address of an ADDR strap value (R3). -/
def ownAddressOf (straps : Nat) : Nat := 224 + straps

/-- Power is applied with these strap values. A strap value that no straps can show finds nothing to do. Power-on while RESET
is held active starts the part and ends the hold (DESIGN CHOICE, log 43). -/
def powerOn (rate straps : Nat) (s : State) : State :=
  if rate < 4 ∧ straps < 16 then freshStart (ownAddressOf straps) rate s else s

/-- The RESET line goes active: port B stops at once, ALERT is released, and a store operation or a loading in progress is
cut short (R19, R145, R180, R181). -/
def resetHeld (s : State) : State :=
  { s with
    phase := .held
    ring := { s.ring with portB := .resting }
    faults := { s.faults with alert := false }
    store := cutShort s.store }

/-- The RESET line is released: the ADDR straps are read again and the bit rate is kept (R3, R181). -/
def resetReleased (straps : Nat) (s : State) : State :=
  if s.phase = .held ∧ straps < 16 then freshStart (ownAddressOf straps) s.ring.rate s else s

/-! ## A restart takes effect (R20, R148, R159, R176, R183) -/

/-- A LATCHED record as a restart keeps it (R148). -/
def keptRecord (r : FaultRecord) : FaultRecord :=
  { r with present := false, firstTime := 0, lastTime := 0, overridden := false, timer := none }

/-- The fault list a restart leaves (R148). -/
def keptList (l : List FaultRecord) : List FaultRecord :=
  (l.filter fun r => decide (r.state = .latched)).map keptRecord

/-- The fault block as a restart starts it: the kept records, and the flags worked out from them (R148). -/
def restartedFaults (f : Faults) : Faults :=
  let kept := keptList f.list
  { freshFaults with
    list := kept
    flags := Vector.ofFn fun i : Fin 10 => kept.any fun r => decide (flagCode (categoryFlag r.cls) = i.val) }

/-- A restart takes effect for every block at one moment. The ring is not broken; the own address, the bit rate, the frame
on port B, the fire latch, the fire inputs' filtered levels and the store areas are kept, and loading begins. -/
def restartNow (s : State) : State :=
  judgeAlert
    { s with
      epoch := s.clock
      phase := .loading true (s.clock + loadingTicks)
      ring := freshRing s.ring.ownAddress s.ring.rate s.clock s.ring.portB
      nodes := Vector.replicate 224 freshNode
      delivery := freshDelivery
      air := freshAir
      fans := Vector.replicate 48 freshFan
      guide := freshGuide
      light := freshLight s.tables.groups
      faults := restartedFaults s.faults
      fire := { s.fire with startTimers := Vector.replicate 48 .stopped, fireHeld := false }
      mgmt := freshMgmt
      store := { s.store with engine := .idle } }

/-- A frame is being sent on port B (R15). -/
def portBSending (s : State) : Bool :=
  match s.ring.portB with
  | .sending _ _ _ => true
  | .resting | .gap _ => false

/-- A RESTART that waited for a frame on port B takes effect once that frame has been sent (R20, R176). -/
def restartTakesEffect (s : State) : State :=
  if running s && s.mgmt.restartPending && !portBSending s then restartNow s else s

/-! ## Loading completes (R148, R159, R181, R182) -/

/-- An area as it is judged when it is read: bad when its check does not match its contents (R177). -/
def Area.judged {α : Type} (check : Bool) (a : Area α) : Area α := if check then a else .bad

/-- Both areas are read and judged, each as a whole (R177, R181): whether a check matches is a free value. An area found bad
stays bad until it is written (R179, R182). -/
def areasRead (s : State) : State :=
  { s with
    draws := s.draws + 1
    store := { s.store with
      settingsArea := s.store.settingsArea.judged (Config.areaCheckMatches s.draws 0)
      planArea := s.store.planArea.judged (Config.areaCheckMatches s.draws 1) } }

/-- The tables loaded from the settings area, or their defaults (R181, R182). -/
def loadedSettings (st : Store) : Settings :=
  match st.settingsArea with
  | .good x => x
  | .bad => defaultSettings

/-- The plan and lock loaded from the plan area, or the default plan with the lock clear (R153, R182). -/
def loadedPlan (st : Store) : PlanArea :=
  match st.planArea with
  | .good x => x
  | .bad => ⟨defaultPlan, false⟩

/-- An area was found bad (R182). -/
def badAreaFound (st : Store) : Bool := decide (st.settingsArea = .bad) || decide (st.planArea = .bad)

/-- The service state of every fan, group and sign as the kept records give it (R75, R119, R140, R148). Nothing is set. -/
def judgeKept (s : State) : State :=
  { s with
    fans := Vector.ofFn fun i : Fin 48 => { fan s i.val with service := serviceOf s (fanAddress s i.val) }
    light := { s.light with groups := Vector.ofFn fun i : Fin 96 =>
      { group s i.val with out := outOfService s (groupEntry s i.val).addr } }
    guide := { s.guide with signs := Vector.ofFn fun i : Fin 48 =>
      { getAt s.guide.signs i.val with out := outOfService s (getAt s.tables.signs i.val).addr } } }

/-- The state in which the blocks take their start-up actions: tables loaded, node map built, service states judged, timers
started, and the fire latch as R159 gives it. -/
def loaded (afterRestart : Bool) (s : State) : State :=
  let t := loadedSettings s.store
  let p := loadedPlan s.store
  let latch := s.fire.fireHeld || (if afterRestart then s.fire.latch else s.fire.fireIn)
  judgeKept { s with
    phase := .running
    tables := t
    nodes := buildMap t
    light := { freshLight t.groups with stepTimer := startTimer s second }
    air := { s.air with evaluationTimer := startTimer s (t.control.evaluationPeriod * second) }
    fire := { s.fire with plan := p.plan, planLock := p.lock, latch := latch, fireHeld := false } }

/-- The fault block's start-up action: STORE if an area was bad, every enabled flag that is set counted as a rise, and the
ALERT line judged (R148). -/
def startupFlags (bad : Bool) (s : State) : State :=
  let t := if bad then { s with faults := { s.faults with flags := setAt s.faults.flags (flagCode .store) true } } else s
  let rises (i : Nat) : Bool := getAt t.faults.flags i && getAt t.tables.control.enables i
  let risen := Vector.ofFn fun i : Fin 10 => getAt t.faults.risen i.val || rises i.val
  let u := { t with faults := { t.faults with risen := risen } }
  judgeAlert (if (List.range 10).any rises then offerNotice u else u)

/-- A fan held out with the action STOP has 0 set at once, unless the fire latch is set and the plan holds it (R94). -/
def startupStops (s : State) : State :=
  forEach 48 (fun i t =>
    if (fan t i).service = .out .stop ∧ ¬ (t.fire.latch = true ∧ planHolds t i = true) then stopFan i t else t) s

/-- Loading completes: both areas have been read, and the blocks take their start-up actions, in no order, but for the signs,
which follow the fire entry (R177, R181). -/
def loadingCompletes (s : State) : State :=
  match s.phase with
  | .loading afterRestart _ =>
    let t := areasRead s
    inAnyOrder
      [fun u => refreshSigns (if u.fire.latch then enterFire u else u), startupFlags (badAreaFound t.store), startupStops]
      (loaded afterRestart t)
  | .held | .running => s

/-! ## The end of a store operation (R157, R158, R170, R179) -/

/-- The request code that started a store operation. -/
def storeOpCode : StoreOp → Nat
  | .keep _ => 4
  | .lock _ => 15
  | .unlock _ => 16

/-- What an ended operation leaves in the areas (R179). -/
def areasAfter (op : StoreOp) (ok : Bool) (st : Store) : Store :=
  match op with
  | .keep c => { st with settingsArea := if ok then .good c else .bad, engine := .idle }
  | .lock p => { st with planArea := if ok then .good ⟨p, true⟩ else .bad, engine := .idle }
  | .unlock p => { st with planArea := if ok then .good ⟨p, false⟩ else .bad, engine := .idle }

/-- What an ended operation leaves of the plan lock (R157, R158, R179). -/
def lockAfter (op : StoreOp) (ok : Bool) (lock : Bool) : Bool :=
  match op with
  | .keep _ => lock
  | .lock _ => ok
  | .unlock _ => false

/-- The running store operation ends, its contents read back (R179). At a failure the STORE notice is offered before the
REFUSED reply, where R11 lets either be first (DESIGN CHOICE, log 7). -/
def storeEnds (ok : Bool) (s : State) : State :=
  match s.store.engine with
  | .idle => s
  | .busy op _ =>
    let t := { s with
      store := areasAfter op ok s.store
      fire := { s.fire with planLock := lockAfter op ok s.fire.planLock }
      mgmt := { s.mgmt with storeSender := none } }
    let u := if ok then t else raiseFlag .store t
    match s.mgmt.storeSender with
    | some w => sendReply ⟨w.source, w.tag, [b8 (storeOpCode op), b8 (if ok then 0 else 8)]⟩ u
    | none => u

/-! ## The commands -/

/-- POWER_ON (R181). -/
def execPowerOn (rate addr : Nat) (s : State) : Host.Outcome State Fault Refusal := .next (powerOn rate addr s)

/-- RESET_ACTIVE (R19). -/
def execResetActive (s : State) : Host.Outcome State Fault Refusal := .next (resetHeld s)

/-- RESET_RELEASE (R181). -/
def execResetRelease (addr : Nat) (s : State) : Host.Outcome State Fault Refusal := .next (resetReleased addr s)

/-- LOADING_COMPLETE (R181). -/
def execLoadingComplete (s : State) : Host.Outcome State Fault Refusal := .next (loadingCompletes s)

/-- RESTART_EFFECT (R20). -/
def execRestartEffect (s : State) : Host.Outcome State Fault Refusal := .next (restartTakesEffect s)

/-- STORE_OPERATION_COMPLETE (R179): the engine works only while the part runs (R178, R180). -/
def execStoreOperationComplete (readBackMatches : Bool) (s : State) : Host.Outcome State Fault Refusal :=
  .next (if running s then storeEnds readBackMatches s else s)

end Sys2Proof.Machine
end

