-- ==== Sys2Proof/Machine/Ring.lean ====
section
/-! DEFINITION. Machine/Ring.lean: frames taken at port A (R1 to R8, R17), requests arriving (R161), and the output arbiter
with port B (R9, R13 to R15). -/

namespace Sys2Proof.Machine

/-! ## Ring silence (R17) -/

/-- The ring-silence interval in ticks as it stands: the CONTROL field once loading has completed, 3 s before. -/
def ringSilenceInterval (s : State) : Nat :=
  if running s then s.tables.control.ringSilence * second else ringSilenceDefault

/-- A good frame restarts the ring-silence timer, and ends RING_SILENT (R17). -/
def ringHeard (s : State) : State :=
  let t := { s with ring := { s.ring with silenceTimer := startTimer s (ringSilenceInterval s), ringSilent := false } }
  if s.ring.ringSilent then endCondition .ringSilent s.ring.ownAddress t else t

/-- The ring-silence timer runs out (R17). -/
def ringFallsSilent (s : State) : State :=
  presence .ringSilent s.ring.ownAddress { s with ring := { s.ring with silenceTimer := none, ringSilent := true } }

/-! ## Requests arriving (R161) -/

/-- The request code byte that a reply begins with (R160). -/
def codeByte (payload : List Byte) : Byte := payload.head?.getD Config.missingCodeByte

/-- A NOT_PERMITTED reply is offered, and discarded when its offer is refused (R161). -/
def refuseSender (source tag : Nat) (payload : List Byte) (s : State) : State :=
  if hasRoom s then enter (replyDraft ⟨source, tag, [codeByte payload, b8 6]⟩) s else s

/-- A REQUEST handed to the management block (R161). -/
def requestArrives (source tag : Nat) (payload : List Byte) (s : State) : State :=
  if !running s then s
  else if source ∉ s.tables.control.managers then refuseSender source tag payload s
  else if requestCapacity ≤ s.mgmt.queue.length then s
  else { s with mgmt := { s.mgmt with queue := s.mgmt.queue ++ [⟨source, tag, payload⟩] } }

/-! ## Frames at port A (R4 to R8) -/

/-- A frame that fails a test of R1: dropped and counted. -/
def rejectFrame (s : State) : State := { s with ring := { s.ring with badCheck := bump s.ring.badCheck } }

/-- A returned own frame (R5): a COMMAND to a single address is handed to command delivery; anything else is discarded. -/
def returnedOwn (f : Frame) (s : State) : State :=
  if f.kind = kindCommand ∧ f.dest ≤ 239 then commandReturned f s else s

/-- A frame for the part (R6): a REQUEST is handed to the management block; anything else is discarded. -/
def frameForPart (f : Frame) (s : State) : State :=
  if f.kind = kindRequest then requestArrives f.source f.tag f.payload s else s

/-- A passing frame is relayed, or dropped for its hop count or for a full relay queue (R8). -/
def relayFrame (f : Frame) (s : State) : State :=
  if f.hops ≤ 1 then { s with ring := { s.ring with hopExpiry := bump s.ring.hopExpiry } }
  else if relayCapacity ≤ s.ring.relayQueue.length then { s with ring := { s.ring with relayFull := bump s.ring.relayFull } }
  else { s with ring := { s.ring with relayQueue := s.ring.relayQueue ++ [{ f with hops := f.hops - 1 }.bytes] } }

/-- A passing frame (R7, R8): read if it is a REPORT, and then relayed or dropped. -/
def passingFrame (f : Frame) (s : State) : State :=
  relayFrame f (if f.kind = kindReport then report f.source f.payload s else s)

/-- A good frame is sorted by its Source and Destination (R4). -/
def sortFrame (f : Frame) (s : State) : State :=
  if f.source = s.ring.ownAddress then returnedOwn f s
  else if f.dest = s.ring.ownAddress then frameForPart f s
  else passingFrame f s

/-- The signs that an event touched are computed once, from the state it left, while the part runs (R112). -/
def signsFollow (s : State) : State := if running s then refreshSigns s else s

/-- Port A takes a frame as ended (R1, R2, R4). While RESET is held, port A's characters are not taken (R19). -/
def frameTaken (bytes : List Byte) (framingError : Bool) (s : State) : State :=
  if s.phase = .held then s
  else match checkFrame bytes framingError with
    | none => rejectFrame s
    | some f => signsFollow (sortFrame f (ringHeard s))

/-! ## Port B (R2, R13 to R15) -/

/-- Ticks that so many characters take on port B (R2). -/
def charsTicks (s : State) (n : Nat) : Nat := n * charTicks s.ring.rate

/-- Port B starts a frame (R15). -/
def startSending (bytes : List Byte) (relayed : Bool) (s : State) : State :=
  { s with ring := { s.ring with portB := .sending bytes relayed (s.clock + charsTicks s bytes.length) } }

/-- Port B is idle: nothing is being sent, the gap has run out, and RESET does not hold it (R14, R19). -/
def portBIdle (s : State) : Bool :=
  decide (s.phase ≠ .held) &&
    match s.ring.portB with
    | .resting => true
    | .gap e => decide (e ≤ s.clock)
    | .sending _ _ _ => false

/-- The frame on port B has been sent at a tick (R15). -/
def frameDone (s : State) : Bool :=
  match s.ring.portB with
  | .sending _ _ e => e ≤ s.clock
  | .resting | .gap _ => false

/-- The last check byte has been sent: a relayed frame is counted, and the gap begins (R2, R15, R18). -/
def frameEnds (s : State) : State :=
  match s.ring.portB with
  | .sending _ relayed _ =>
    if frameDone s then
      { s with ring := { s.ring with
          portB := .gap (s.clock + charsTicks s 2)
          relayed := if relayed then bump s.ring.relayed else s.ring.relayed } }
    else s
  | .resting | .gap _ => s

/-- The kind of a frame of the insertion queue. -/
def bodyKind : FrameBody → Nat
  | .command _ _ | .groupFull _ | .proxy _ _ _ => kindCommand
  | .reply _ => kindReply
  | .notice => kindNotice

/-- The payload of a frame of the insertion queue as it starts (3.2, 8.9, R16). -/
def bodyPayload (s : State) : FrameBody → List Byte
  | .command _ x => settingPayload x
  | .groupFull g => [b8 0, b8 2, Config.groupCommandLevel g]
  | .proxy op id value => proxyPayload op id value
  | .reply payload => payload
  | .notice => noticePayload s

/-- The tag a frame starts with: command delivery fills in its own, and other frames carry theirs (R13, R43). -/
def startTag (s : State) (d : Draft) : Nat :=
  match d.body with
  | .command _ _ | .proxy _ _ _ => freeTag s.delivery
  | .groupFull _ | .reply _ | .notice => d.tag

/-- The finished frame of a draft: its ring fields filled in (R13). -/
def finishedFrame (s : State) (d : Draft) : Frame :=
  { dest := d.dest, source := s.ring.ownAddress, kind := bodyKind d.body, hops := s.tables.control.hops
    tag := startTag s d, mark := 0, payload := bodyPayload s d.body }

/-- The originating block is told that its frame has started (R13, R43, R51, R146). -/
def tellOrigin (d : Draft) (tag : Nat) (s : State) : State :=
  match d.body with
  | .command a x => startRecord a x d.dest tag s
  | .proxy _ _ _ => startProxy tag s
  | .notice => startNotice s
  | .groupFull _ | .reply _ => s

/-- The head of the relay queue starts (R9, R14). -/
def startRelayed (bytes : List Byte) (rest : List (List Byte)) (run : Nat) (s : State) : State :=
  startSending bytes true { s with ring := { s.ring with relayQueue := rest, runCount := run } }

/-- The head of the insertion queue starts, its block is told, and the place it frees is given to a claim (R11, R13). -/
def startInserted (f : QFrame) (rest : List QFrame) (s : State) : State :=
  let t := { s with ring := { s.ring with insertion := rest, runCount := 0 } }
  giveRoom (tellOrigin f.draft (startTag s f.draft) (startSending (finishedFrame s f.draft).bytes false t))

/-- The output arbiter decides (R14). -/
def arbitrate (s : State) : State :=
  match s.ring.relayQueue, s.ring.insertion with
  | [], [] => s
  | r :: rs, [] => startRelayed r rs 0 s
  | [], f :: fs => startInserted f fs s
  | r :: rs, f :: fs => if s.ring.runCount < 4 then startRelayed r rs (s.ring.runCount + 1) s else startInserted f fs s

/-! ## The commands -/

/-- FRAME_RECEIVED (R4). -/
def execFrameReceived (bytes : List Byte) (framingError : Bool) (s : State) : Host.Outcome State Fault Refusal :=
  .next (frameTaken bytes framingError s)

/-- FRAME_SENT (R15). -/
def execFrameSent (s : State) : Host.Outcome State Fault Refusal := .next (frameEnds s)

/-- ARBITER_DECISION (R14): made while port B is idle. -/
def execArbiterDecision (s : State) : Host.Outcome State Fault Refusal :=
  .next (if portBIdle s then arbitrate s else s)

/-- RING_SILENCE_EXPIRY (R17). -/
def execRingSilenceExpiry (s : State) : Host.Outcome State Fault Refusal :=
  .next (if s.phase ≠ .held ∧ dueAt s.clock s.ring.silenceTimer = true then ringFallsSilent s else s)

end Sys2Proof.Machine
end

