-- ==== Sys2Proof/WellFormed.lean ====
section
/-! DEFINITION. WellFormed.lean: which operands name something the part has. A command is well formed when its strap
values, node address, entry index and level lie in the ranges of the manual. An ill-formed command names no timer and no
line of the part: its meaning finds nothing to do. -/

namespace Sys2Proof

/-- The actuator's index is an entry of its table: 48 fans, 96 groups, 48 signs (R38). -/
def Actuator.wellFormed : Actuator → Bool
  | .fan i => i < 48
  | .group i => i < 96
  | .sign i => i < 48

/-- The operands of the command lie in the manual's ranges. -/
def Instr.wellFormed : Instr → Bool
  | .powerOn rate addr => rate < 4 && addr < 16
  | .resetRelease addr => addr < 16
  | .nodeSilenceExpiry addr => 1 ≤ addr && addr ≤ 223
  | .returnTimerExpiry a => a.wellFormed
  | .resendTimerExpiry a => a.wellFormed
  | .fanDeglitchExpiry fan _ => fan < 48
  | .baySettleExpiry bay => bay < 2048
  | .transitTimeout level => level < 8
  | .signIntervalExpiry sign => sign < 48
  | .holdTimerExpiry group => group < 96
  | .lampTimerExpiry group => group < 96
  | .retryTimerExpiry _ addr => 1 ≤ addr && addr ≤ 239
  | .startDelayExpiry fan => fan < 48
  | .resetActive | .loadingComplete | .frameReceived _ _ | .frameSent | .arbiterDecision | .ringSilenceExpiry
  | .proxyTimerExpiry | .evaluation | .lightStep | .fireInActive | .fireInInactive | .keyswChange _ | .aim | .put
  | .fetch | .keep | .stateZone | .stateLevel | .stateFan | .stateGroup | .stateSign | .stateSummary | .stateSummaryRaw
  | .stateRing | .ack | .clearFaults | .manual | .auto | .closeLevel | .openLevel | .holdBays | .fireOn | .fireOff
  | .lockPlan | .unlockPlan | .askNode | .restart | .unknownRequest | .restartEffect
  | .storeOperationComplete _ => true

end Sys2Proof
end

