-- ==== Sys2Proof/Machine/Timers.lean ====
section
/-! DEFINITION. Machine/Timers.lean: the expiries of the part's own timers and the changes of its fire lines.

An expiry is acted on when its timer runs and its time has come, while the part runs. A command that names a timer that is
stopped, that runs on, or that the part does not have finds nothing to do. -/

namespace Sys2Proof.Machine

/-! ## Nodes and command delivery (R25, R46, R48, R51) -/

/-- The silence timer of a node has run out (R25). -/
def nodeSilenceDue (addr : Nat) (s : State) : Bool :=
  running s && decide (1 ≤ addr) && decide (addr ≤ 223) && dueAt s.clock (node s addr).silenceTimer

/-- The return timer of a record in flight has run out (R46). -/
def returnDue (a : Actuator) (s : State) : Bool :=
  running s && a.wellFormed && decide ((s.record a).state = .inFlight) && dueAt s.clock (s.record a).returnTimer

/-- The return timer of a record expires: a failed attempt of the frame it had in flight (R46, R47). -/
def returnExpires (a : Actuator) (s : State) : State :=
  match (s.record a).inFlight with
  | some f => failAttempt a f.dest s
  | none => s

/-- The resend timer of a record in RESEND_WAIT has run out (R48). -/
def resendDue (a : Actuator) (s : State) : Bool :=
  running s && a.wellFormed && decide ((s.record a).state = .resendWait) && dueAt s.clock (s.record a).resendTimer

/-- The resend timer of a record expires: its frame is built and offered (R48). -/
def resendExpires (a : Actuator) (s : State) : State :=
  offerRecord a (s.setRecord a { s.record a with resendTimer := none })

/-- The proxy access's timer has run out in flight (R51). -/
def proxyDue (s : State) : Bool :=
  running s && decide (s.delivery.proxy.state = .inFlight) && dueAt s.clock s.delivery.proxy.timer

/-! ## Evaluation and fans (R70, R86, R155) -/

/-- The evaluation timer expires: it restarts with the period as it now stands, and every zone is evaluated (R70). -/
def evaluationExpires (s : State) : State :=
  refreshSigns (evaluateAll { s with air := { s.air with
    evaluationTimer := startTimer s (s.tables.control.evaluationPeriod * second) } })

/-- A deglitch timer of a fan has run out (R86). -/
def deglitchDue (i : Nat) (t : FanTest) (s : State) : Bool :=
  running s && decide (i < 48) && dueAt s.clock ((fan s i).test t).timer

/-- A fan's deglitch timer expires: the condition is present (R86). -/
def deglitchExpires (i : Nat) (t : FanTest) (s : State) : State :=
  presence (testClass t) (fanAddress s i) (modFan i (fun r => r.setTest t { timer := none, present := true }) s)

/-- A fan's start timer has run out (R155). -/
def startDelayDue (i : Nat) (s : State) : Bool :=
  running s && decide (i < 48) && startDue s.clock (getAt s.fire.startTimers i)

/-! ## Bays, arrivals and signs (R101, R107, R113) -/

/-- A bay's settle timer has run out (R101). -/
def settleDue (b : Nat) (s : State) : Bool := running s && decide (b < 2048) && dueAt s.clock (bay s b).timer

/-- A bay's settle timer expires: the bay takes its pending state (R101). -/
def settleExpires (b : Nat) (s : State) : State :=
  match (bay s b).pending with
  | some x => refreshSigns (settleBay b x s)
  | none => s

/-- The oldest entry of a level's list has reached the level's transit timeout (R107). -/
def transitDue (l : Nat) (s : State) : Bool :=
  running s && decide (l < 8) && (getAt s.guide.levels l).arrivals.head?.any fun x =>
    decide ((getAt s.tables.levels l).transit * 10 ≤ tenthsSinceStart s - x.time)

/-- A sign's interval timer has run out (R113). -/
def intervalDue (i : Nat) (s : State) : Bool :=
  running s && decide (i < 48) && dueAt s.clock (getAt s.guide.signs i).timer

/-- A sign's interval timer expires: a pending setting is compared and sent (R113, R115). -/
def intervalExpires (i : Nat) (s : State) : State :=
  let r := getAt s.guide.signs i
  let t : State := { s with guide := { s.guide with signs := setAt s.guide.signs i { r with timer := none } } }
  if r.pending then offerSign i r.computed t else t

/-! ## Lighting (R120, R124, R125) -/

/-- The light step timer has run out (R124). -/
def lightStepDue (s : State) : Bool := running s && dueAt s.clock s.light.stepTimer

/-- The light step timer expires: it restarts, and every group is worked in turn (R124). -/
def lightSteps (s : State) : State :=
  forEach 96 stepGroup { s with light := { s.light with stepTimer := startTimer s second } }

/-- A group's hold timer has run out (R120). -/
def holdDue (i : Nat) (s : State) : Bool := running s && decide (i < 96) && dueAt s.clock (group s i).holdTimer

/-- A group's lamp timer has run out (R125). -/
def lampDue (i : Nat) (s : State) : Bool := running s && decide (i < 96) && dueAt s.clock (group s i).lamp.timer

/-- A group's lamp timer expires: LAMP_OPEN is present (R125). -/
def lampExpires (i : Nat) (s : State) : State :=
  presence .lampOpen (groupEntry s i).addr (modGroup i (fun r => { r with lamp := { timer := none, present := true } }) s)

/-! ## Fault records (R138) -/

/-- The retry timer of a pair's record has run out (R138). -/
def retryDue (c : FaultClass) (addr : Nat) (s : State) : Bool :=
  running s && (findRecord s c addr).any fun r => dueAt s.clock r.timer

/-! ## Fire lines (R149, R150) -/

/-- FIRE_IN goes active: held while loading is in progress, and acted on otherwise (R149, R150). -/
def fireInRises (s : State) : State :=
  if s.fire.fireIn then s
  else match s.phase with
    | .held => s
    | .loading _ _ => { s with fire := { s.fire with fireIn := true, fireHeld := true } }
    | .running => setLatch { s with fire := { s.fire with fireIn := true } }

/-! ## The commands -/

/-- NODE_SILENCE_EXPIRY (R25). -/
def execNodeSilenceExpiry (addr : Nat) (s : State) : Host.Outcome State Fault Refusal :=
  .next (if nodeSilenceDue addr s then refreshSigns (nodeSilenced addr s) else s)

/-- RETURN_TIMER_EXPIRY (R46). -/
def execReturnTimerExpiry (a : Actuator) (s : State) : Host.Outcome State Fault Refusal :=
  .next (if returnDue a s then returnExpires a s else s)

/-- RESEND_TIMER_EXPIRY (R48). -/
def execResendTimerExpiry (a : Actuator) (s : State) : Host.Outcome State Fault Refusal :=
  .next (if resendDue a s then resendExpires a s else s)

/-- PROXY_TIMER_EXPIRY (R51, R175): no answer. -/
def execProxyTimerExpiry (s : State) : Host.Outcome State Fault Refusal :=
  .next (if proxyDue s then endProxy 7 [] s else s)

/-- EVALUATION (R70). -/
def execEvaluation (s : State) : Host.Outcome State Fault Refusal :=
  .next (if running s && dueAt s.clock s.air.evaluationTimer then evaluationExpires s else s)

/-- FAN_DEGLITCH_EXPIRY (R86). -/
def execFanDeglitchExpiry (i : Nat) (t : FanTest) (s : State) : Host.Outcome State Fault Refusal :=
  .next (if deglitchDue i t s then deglitchExpires i t s else s)

/-- BAY_SETTLE_EXPIRY (R101). -/
def execBaySettleExpiry (b : Nat) (s : State) : Host.Outcome State Fault Refusal :=
  .next (if settleDue b s then settleExpires b s else s)

/-- TRANSIT_TIMEOUT (R107): every entry that has reached the timeout leaves, and the signs are computed once. -/
def execTransitTimeout (l : Nat) (s : State) : Host.Outcome State Fault Refusal :=
  .next (if transitDue l s then refreshSigns (ageLevel l s) else s)

/-- SIGN_INTERVAL_EXPIRY (R113). -/
def execSignIntervalExpiry (i : Nat) (s : State) : Host.Outcome State Fault Refusal :=
  .next (if intervalDue i s then intervalExpires i s else s)

/-- LIGHT_STEP (R124). -/
def execLightStep (s : State) : Host.Outcome State Fault Refusal :=
  .next (if lightStepDue s then lightSteps s else s)

/-- HOLD_TIMER_EXPIRY (R120). -/
def execHoldTimerExpiry (i : Nat) (s : State) : Host.Outcome State Fault Refusal :=
  .next (if holdDue i s then holdExpired i s else s)

/-- LAMP_TIMER_EXPIRY (R125). -/
def execLampTimerExpiry (i : Nat) (s : State) : Host.Outcome State Fault Refusal :=
  .next (if lampDue i s then lampExpires i s else s)

/-- RETRY_TIMER_EXPIRY (R138). -/
def execRetryTimerExpiry (c : FaultClass) (addr : Nat) (s : State) : Host.Outcome State Fault Refusal :=
  .next (if retryDue c addr s then retryExpired c addr s else s)

/-- FIRE_IN_ACTIVE (R150). -/
def execFireInActive (s : State) : Host.Outcome State Fault Refusal := .next (fireInRises s)

/-- FIRE_IN_INACTIVE (R149): the filtered level is taken, and nothing else is set or cleared. -/
def execFireInInactive (s : State) : Host.Outcome State Fault Refusal :=
  .next (if s.phase = .held then s else { s with fire := { s.fire with fireIn := false } })

/-- KEYSW_CHANGE (R149): the filtered level is taken. -/
def execKeyswChange (active : Bool) (s : State) : Host.Outcome State Fault Refusal :=
  .next (if s.phase = .held then s else { s with fire := { s.fire with keysw := active } })

/-- START_DELAY_EXPIRY (R155). -/
def execStartDelayExpiry (i : Nat) (s : State) : Host.Outcome State Fault Refusal :=
  .next (if startDelayDue i s then startDelayExpired i s else s)

end Sys2Proof.Machine
end

