-- ==== Sys2Proof/Machine/Requests.lean ====
section
/-! DEFINITION. Machine/Requests.lean: the serving of each management request (R160 to R176).

Each command serves the request at the head of the queue when the conditions of R162 hold and the request is of its kind.
A request of another kind, an empty queue or a condition of R162 that does not hold leaves the state as it is. -/

namespace Sys2Proof.Machine

/-! ## Reply codes (R160) -/

/-- DONE. -/
def codeDone : Nat := 0
/-- DONE_CLAMPED. -/
def codeClamped : Nat := 1
/-- BUSY. -/
def codeBusy : Nat := 2
/-- RANGE. -/
def codeRange : Nat := 3
/-- BAD_ENTRY. -/
def codeBadEntry : Nat := 4
/-- LOCKED. -/
def codeLocked : Nat := 5
/-- NOT_PERMITTED. -/
def codeNotPermitted : Nat := 6
/-- UNKNOWN. -/
def codeUnknown : Nat := 9

/-! ## Serving (R162, R163) -/

/-- The head request may be served: the outgoing list is empty, the proxy access does not wait for room, and no restart
waits to take effect (R162, R176). -/
def canServe (s : State) : Bool :=
  running s && s.mgmt.outgoing.isEmpty && decide (s.delivery.proxy.state ≠ .waitingRoom) && !s.mgmt.restartPending

/-- The reply to a request is built and offered (R160, R163). -/
def answer (r : Request) (code : Nat) (content : List Byte) (s : State) : State :=
  sendReply ⟨r.source, r.tag, codeByte r.payload :: b8 code :: content⟩ s

/-- The head request is served by `act` if it is of the kind `act` takes: it leaves the queue, and is acted on (R162). -/
def serveHead (act : Request → Req → Option (State → State)) (s : State) : State :=
  if canServe s then
    match s.mgmt.queue with
    | [] => s
    | r :: rest =>
      match act r (parseRequest r.payload) with
      | some f => f { s with mgmt := { s.mgmt with queue := rest } }
      | none => s
  else s

/-! ## AIM (R165) -/

/-- An AIM request. -/
def doAim (table index : Nat) (r : Request) (s : State) : State :=
  if 13 < table ∨ lastIndex table < index then answer r codeRange [] s
  else answer r codeDone [] { s with mgmt := { s.mgmt with cursor := ⟨table, index, index⟩ } }

/-! ## PUT (R167, R168) -/

/-- How a run of writes ended. -/
inductive PutEnd where
  | whole | stopped | pastEnd
deriving DecidableEq, Repr

/-- What a run of writes comes to: the state, the index after it, the entries written, the first clamped index, its end. -/
structure PutRun where
  state : State
  index : Nat
  count : Nat
  clamped : Nat
  ending : PutEnd

/-- The index of the first clamped entry when there is none (R167). -/
def noneClamped : Nat := 65535

/-- The entries of a PUT, one by one (R168); `fuel` bounds their number. A field that was clamped in the entry that stops the
write is not counted in the first clamped index (DESIGN CHOICE, log 42). -/
def putRun (table : Nat) : Nat → Nat → Nat → Nat → List Byte → State → PutRun
  | 0, i, n, c, _, s => ⟨s, i, n, c, .whole⟩
  | fuel + 1, i, n, c, bytes, s =>
    if bytes = [] then ⟨s, i, n, c, .whole⟩
    else if lastIndex table < i then ⟨s, i, n, c, .pastEnd⟩
    else match writeEntry table i bytes s with
      | none => ⟨s, i, n, c, .stopped⟩
      | some (t, clamped, rest) =>
        putRun table fuel (i + 1) (n + 1) (if clamped && decide (c = noneClamped) then i else c) rest t

/-- An index that has moved past the last one of its table rolls over to 0 (R165). -/
def rollOver (table i : Nat) : Nat := if lastIndex table < i then 0 else i

/-- The contents of every PUT reply (R167). -/
def putContent (s : State) (count clamped : Nat) : List Byte :=
  let c := s.mgmt.cursor
  b8 c.table :: b16 c.base ++ b16 c.index ++ [b8 count] ++ b16 clamped

/-- The reply code of a run of writes (R168). -/
def putCode (p : PutRun) : Nat :=
  match p.ending with
  | .stopped => codeBadEntry
  | .pastEnd => codeRange
  | .whole => if p.clamped = noneClamped then codeDone else codeClamped

/-- A PUT that passed its checks (R168). -/
def putEntries (bytes : List Byte) (r : Request) (s : State) : State :=
  let c := s.mgmt.cursor
  let p := putRun c.table bytes.length c.index 0 noneClamped bytes s
  let t := { p.state with mgmt := { p.state.mgmt with cursor := { c with index := rollOver c.table p.index } } }
  answer r (putCode p) (putContent t p.count p.clamped ++ (if p.ending = .stopped then b16 p.index else [])) t

/-- A PUT request: the checks of R167 in order, and then its entries. -/
def doPut (table index : Nat) (bytes : List Byte) (r : Request) (s : State) : State :=
  let c := s.mgmt.cursor
  if engineBusy s then answer r codeBusy (putContent s 0 noneClamped) s
  else if c.table = faultsTable then answer r codeNotPermitted (putContent s 0 noneClamped) s
  else if c.table = planTable ∧ (s.fire.planLock = true ∨ s.fire.latch = true) then
    answer r codeLocked (putContent s 0 noneClamped) s
  else if table ≠ c.table ∨ index ≠ c.index then answer r codeRange (putContent s 0 noneClamped) s
  else putEntries bytes r s

/-! ## FETCH (R169) -/

/-- The most bytes of entries in a FETCH reply (R166). -/
def fetchRoom : Nat := 40

/-- A FETCH request. -/
def doFetch (count : Nat) (r : Request) (s : State) : State :=
  let c := s.mgmt.cursor
  let n := fetchCount c.table s count c.index fetchRoom
  let entries := (List.range n).flatMap fun k => entryBytes c.table (c.index + k) s
  answer r codeDone (b8 c.table :: b16 c.base ++ b16 c.index ++ [b8 n] ++ entries)
    { s with mgmt := { s.mgmt with cursor := { c with index := rollOver c.table (c.index + n) } } }

/-! ## The settings store (R157, R158, R170, R178) -/

/-- The longest time of a KEEP, 4 s (R178). -/
def keepTicks : Nat := 4 * second
/-- The longest time of a lock request, 2 s (R178). -/
def lockTicks : Nat := 2 * second

/-- The store engine starts an operation, and the management block holds whom it answers (R170, R178). -/
def startStore (op : StoreOp) (ticks : Nat) (r : Request) (s : State) : State :=
  { s with
    store := { s.store with engine := .busy op (s.clock + ticks) }
    mgmt := { s.mgmt with storeSender := some ⟨r.source, r.tag⟩ } }

/-- A KEEP request. -/
def doKeep (r : Request) (s : State) : State :=
  if engineBusy s then answer r codeBusy [] s else startStore (.keep s.tables) keepTicks r s

/-- The first entry of the working plan that runs a fan with no node address (R157). -/
def unlockable (s : State) : Option Nat :=
  (List.range 48).find? fun i =>
    let a := (getAt s.fire.plan i).action
    (decide (a = .runForward) || decide (a = .runReverse)) && decide (fanAddress s i = 0)

/-- A LOCK PLAN request (R157, R170). -/
def doLockPlan (r : Request) (s : State) : State :=
  if engineBusy s then answer r codeBusy [] s
  else match unlockable s with
    | some i => answer r codeBadEntry [b8 i] s
    | none => startStore (.lock s.fire.plan) lockTicks r s

/-- An UNLOCK PLAN request (R158, R170). -/
def doUnlockPlan (r : Request) (s : State) : State :=
  if engineBusy s then answer r codeBusy [] s
  else if s.fire.keysw then startStore (.unlock s.fire.plan) lockTicks r s
  else answer r codeLocked [] s

/-! ## STATE (R171) -/

/-- A STATE request of one selector; a selector above 7 is refused by whichever STATE command serves it (R171). -/
def serveState (selector top : Nat) (view : Nat → State → List Byte) : State → State :=
  serveHead fun r q =>
    match q with
    | .state k n =>
      if k = selector then some fun s => if top < n then answer r codeRange [] s else answer r codeDone (view n s) s
      else if 7 < k then some (answer r codeRange [])
      else none
    | _ => none

/-! ## ACK and CLEAR FAULTS (R141, R144, R172) -/

/-- The named flags are acknowledged, and the ALERT line is judged (R144). -/
def ackFlags (codes : List Nat) (s : State) : State :=
  judgeAlert ((codes.filterMap flagOfCode).foldl ackFlag s)

/-- An ACK request (R172). -/
def doAck (codes : List Nat) (r : Request) (s : State) : State :=
  if codes.length = 0 ∨ 10 < codes.length ∨ (codes.any fun c => decide (9 < c)) = true then answer r codeRange [] s
  else
    let t := ackFlags codes s
    answer r codeDone (flagsField t) t

/-- A CLEAR FAULTS request (R172). -/
def doClearFaults (category : Nat) (r : Request) (s : State) : State :=
  if 5 < category then answer r codeRange [] s
  else
    let removed := (s.faults.list.filter (cleared category)).length
    let kept := (s.faults.list.filter fun x => inCategory category x.cls && x.present).length
    answer r codeDone [b8 removed, b8 kept] (clearRecords category s)

/-! ## Operator orders (R173, R174) -/

/-- The direction of a code; a MANUAL with another code is refused before (R173). -/
def directionOfCode (d : Nat) : Direction := if d = 0 then .forward else .reverse

/-- A MANUAL request taken by the fan block (R80). A fan in service is set at once before the first evaluation too (DESIGN
CHOICE, log 38). -/
def takeManual (i : Nat) (x : FanSetting) (s : State) : State :=
  let t := modFan i (fun f => { f with manualMode := true, manual := x }) s
  if (fan t i).service = .inService then setFan i x t else t

/-- A MANUAL request: its checks in order (R173). -/
def doManual (i speed direction : Nat) (r : Request) (s : State) : State :=
  if 47 < i then answer r codeRange [] s
  else if s.fire.latch then answer r codeLocked [] s
  else if 1 < direction then answer r codeRange [] s
  else
    answer r (if 100 < speed then codeClamped else codeDone) []
      (takeManual i ⟨min 100 speed, directionOfCode direction⟩ s)

/-- An AUTO request (R81, R173). -/
def doAuto (i : Nat) (r : Request) (s : State) : State :=
  if 47 < i then answer r codeRange [] s
  else answer r codeDone [] (modFan i (fun f => { f with manualMode := false }) s)

/-- CLOSE LEVEL and OPEN LEVEL: OPERATOR is added to a level's reasons or removed (R108, R173). -/
def doOperator (on : Bool) (l : Nat) (r : Request) (s : State) : State :=
  if 7 < l then answer r codeRange [] s
  else answer r codeDone [] (refreshSigns (modReasons l (fun x => { x with operator := on }) s))

/-- The held mark of one bay is set; counts and signs follow when it changes (R104, R174). -/
def holdBay (on : Bool) (b : Nat) (s : State) : State :=
  let e := getAt s.tables.bays b
  if e.held = on then s
  else refreshSigns (recount { s with tables := { s.tables with bays := setAt s.tables.bays b { e with held := on } } })

/-- A HOLD BAYS request (R174). -/
def doHoldBays (first count held : Nat) (r : Request) (s : State) : State :=
  if 2047 < first ∨ 1 < held then answer r codeRange [] s
  else
    let n := min count (2048 - first)
    let t := forList ((List.range n).map (first + ·)) (holdBay (decide (held = 1))) s
    answer r (if n < count then codeRange else codeDone) (b16 n) t

/-- A FIRE ON request (R150, R173). -/
def doFireOn (r : Request) (s : State) : State := answer r codeDone [] (setLatch s)

/-- A FIRE OFF request (R151, R173). -/
def doFireOff (r : Request) (s : State) : State :=
  if s.fire.fireIn then answer r codeLocked [] s
  else answer r codeDone [] (if s.fire.latch then leaveFire s else s)

/-! ## ASK NODE and RESTART (R175, R176) -/

/-- The proxy access starts: its frame is offered (R51, R175). -/
def startAsk (p : Proxy) (r : Request) (s : State) : State :=
  let put (st : ProxyState) : State :=
    { s with
      delivery := { s.delivery with proxy := { p with state := st } }
      mgmt := { s.mgmt with proxySender := some ⟨r.source, r.tag⟩ } }
  if hasRoom s then enter (proxyDraft p) (put .queued) else claim .proxy (put .waitingRoom)

/-- An ASK NODE request: its checks in order (R175). -/
def doAskNode (target op id value : Nat) (r : Request) (s : State) : State :=
  if target = 0 ∨ 223 < target ∨ (op ≠ 1 ∧ op ≠ 2) then answer r codeRange [] s
  else if op = 2 ∧ id ≤ 15 then answer r codeNotPermitted [] s
  else if s.delivery.proxy.state ≠ .idle then answer r codeBusy [] s
  else startAsk { freshProxy with target := target, op := op, id := id, value := if op = 1 then 0 else value } r s

/-- A RESTART request: at once, or when the frame on port B has been sent (R20, R176). -/
def doRestart (r : Request) (s : State) : State :=
  if engineBusy s then answer r codeBusy [] s
  else if portBSending s then { s with mgmt := { s.mgmt with restartPending := true } }
  else restartNow s

/-! ## The commands -/

/-- AIM (R165). -/
def execAim (s : State) : Host.Outcome State Fault Refusal :=
  .next (serveHead (fun r q => match q with | .aim t i => some (doAim t i r) | _ => none) s)

/-- PUT (R168). -/
def execPut (s : State) : Host.Outcome State Fault Refusal :=
  .next (serveHead (fun r q => match q with | .put t i es => some (doPut t i es r) | _ => none) s)

/-- FETCH (R169). -/
def execFetch (s : State) : Host.Outcome State Fault Refusal :=
  .next (serveHead (fun r q => match q with | .fetch n => some (doFetch n r) | _ => none) s)

/-- KEEP (R170). -/
def execKeep (s : State) : Host.Outcome State Fault Refusal :=
  .next (serveHead (fun r q => match q with | .keep => some (doKeep r) | _ => none) s)

/-- STATE ZONE (R72). -/
def execStateZone (s : State) : Host.Outcome State Fault Refusal := .next (serveState 0 15 viewZone s)

/-- STATE LEVEL (R116). -/
def execStateLevel (s : State) : Host.Outcome State Fault Refusal := .next (serveState 1 7 viewLevel s)

/-- STATE FAN (R93). -/
def execStateFan (s : State) : Host.Outcome State Fault Refusal := .next (serveState 2 47 viewFan s)

/-- STATE GROUP (R130). -/
def execStateGroup (s : State) : Host.Outcome State Fault Refusal := .next (serveState 3 95 viewGroup s)

/-- STATE SIGN (R116). -/
def execStateSign (s : State) : Host.Outcome State Fault Refusal := .next (serveState 4 47 viewSign s)

/-- STATE SUMMARY (R147); the number is ignored. -/
def execStateSummary (s : State) : Host.Outcome State Fault Refusal :=
  .next (serveState 5 255 (fun _ => viewSummary) s)

/-- STATE SUMMARY RAW (R147); the number is ignored. -/
def execStateSummaryRaw (s : State) : Host.Outcome State Fault Refusal :=
  .next (serveState 6 255 (fun _ => flagsField) s)

/-- STATE RING (R18); the number is ignored. -/
def execStateRing (s : State) : Host.Outcome State Fault Refusal := .next (serveState 7 255 (fun _ => viewRing) s)

/-- ACK (R144, R172). -/
def execAck (s : State) : Host.Outcome State Fault Refusal :=
  .next (serveHead (fun r q => match q with | .ack cs => some (doAck cs r) | _ => none) s)

/-- CLEAR FAULTS (R141, R172). -/
def execClearFaults (s : State) : Host.Outcome State Fault Refusal :=
  .next (serveHead (fun r q => match q with | .clearFaults k => some (doClearFaults k r) | _ => none) s)

/-- MANUAL (R80, R173). -/
def execManual (s : State) : Host.Outcome State Fault Refusal :=
  .next (serveHead (fun r q => match q with | .manual i v d => some (doManual i v d r) | _ => none) s)

/-- AUTO (R81, R173). -/
def execAuto (s : State) : Host.Outcome State Fault Refusal :=
  .next (serveHead (fun r q => match q with | .auto i => some (doAuto i r) | _ => none) s)

/-- CLOSE LEVEL (R108, R173). -/
def execCloseLevel (s : State) : Host.Outcome State Fault Refusal :=
  .next (serveHead (fun r q => match q with | .closeLevel l => some (doOperator true l r) | _ => none) s)

/-- OPEN LEVEL (R108, R173). -/
def execOpenLevel (s : State) : Host.Outcome State Fault Refusal :=
  .next (serveHead (fun r q => match q with | .openLevel l => some (doOperator false l r) | _ => none) s)

/-- HOLD BAYS (R174). -/
def execHoldBays (s : State) : Host.Outcome State Fault Refusal :=
  .next (serveHead (fun r q => match q with | .holdBays f n h => some (doHoldBays f n h r) | _ => none) s)

/-- FIRE ON (R150, R173). -/
def execFireOn (s : State) : Host.Outcome State Fault Refusal :=
  .next (serveHead (fun r q => match q with | .fireOn => some (doFireOn r) | _ => none) s)

/-- FIRE OFF (R151, R173). -/
def execFireOff (s : State) : Host.Outcome State Fault Refusal :=
  .next (serveHead (fun r q => match q with | .fireOff => some (doFireOff r) | _ => none) s)

/-- LOCK PLAN (R157, R170). -/
def execLockPlan (s : State) : Host.Outcome State Fault Refusal :=
  .next (serveHead (fun r q => match q with | .lockPlan => some (doLockPlan r) | _ => none) s)

/-- UNLOCK PLAN (R158, R170). -/
def execUnlockPlan (s : State) : Host.Outcome State Fault Refusal :=
  .next (serveHead (fun r q => match q with | .unlockPlan => some (doUnlockPlan r) | _ => none) s)

/-- ASK NODE (R175). -/
def execAskNode (s : State) : Host.Outcome State Fault Refusal :=
  .next (serveHead (fun r q => match q with | .askNode a o i v => some (doAskNode a o i v r) | _ => none) s)

/-- RESTART (R176). -/
def execRestart (s : State) : Host.Outcome State Fault Refusal :=
  .next (serveHead (fun r q => match q with | .restart => some (doRestart r) | _ => none) s)

/-- UNKNOWN_REQUEST (R162): a request whose code or payload does not fit. -/
def execUnknownRequest (s : State) : Host.Outcome State Fault Refusal :=
  .next (serveHead (fun r q => match q with | .unknown => some (answer r codeUnknown []) | _ => none) s)

end Sys2Proof.Machine
end

