-- ==== Sys2Proof/Machine/Tick.lean ====
section
/-! DEFINITION. Machine/Tick.lean: what the part does of itself when no command waits. The model's clock counts ticks of
20 µs. At each instant every internal event that is due is taken, one by one and in no stated order, before the clock moves
on (DESIGN CHOICE). -/

namespace Sys2Proof.Machine

/-- A command if a condition holds. -/
def dueIf (b : Bool) (c : Instr) : List Instr := if b then [c] else []

/-- The commands, one for each place below `n`, that are due. -/
def dueEach (n : Nat) (due : Nat → Bool) (c : Nat → Instr) : List Instr := ((List.range n).filter due).map c

/-- The command that serves a request. A STATE request with a selector above 7 is served by STATE RING. -/
def servingCommand : Req → Instr
  | .aim _ _ => .aim
  | .put _ _ _ => .put
  | .fetch _ => .fetch
  | .keep => .keep
  | .state 0 _ => .stateZone
  | .state 1 _ => .stateLevel
  | .state 2 _ => .stateFan
  | .state 3 _ => .stateGroup
  | .state 4 _ => .stateSign
  | .state 5 _ => .stateSummary
  | .state 6 _ => .stateSummaryRaw
  | .state _ _ => .stateRing
  | .ack _ => .ack
  | .clearFaults _ => .clearFaults
  | .manual _ _ _ => .manual
  | .auto _ => .auto
  | .closeLevel _ => .closeLevel
  | .openLevel _ => .openLevel
  | .holdBays _ _ _ => .holdBays
  | .fireOn => .fireOn
  | .fireOff => .fireOff
  | .lockPlan => .lockPlan
  | .unlockPlan => .unlockPlan
  | .askNode _ _ _ _ => .askNode
  | .restart => .restart
  | .unknown => .unknownRequest

/-- A frame waits in either queue (R14). -/
def frameWaits (s : State) : Bool := !s.ring.relayQueue.isEmpty || !s.ring.insertion.isEmpty

/-- The events of the ring interface that are due (R14, R15, R17). -/
def ringDue (s : State) : List Instr :=
  dueIf (frameDone s) .frameSent ++ dueIf (portBIdle s && frameWaits s) .arbiterDecision
    ++ dueIf (dueAt s.clock s.ring.silenceTimer) .ringSilenceExpiry

/-- The request that is to be served (R162). -/
def serveDue (s : State) : List Instr :=
  if canServe s then (s.mgmt.queue.take 1).map fun r => servingCommand (parseRequest r.payload) else []

/-- The store operation that has reached its longest time; the outcome of its read-back is a free value (R178, R179). -/
def storeDue (s : State) : List Instr :=
  match s.store.engine with
  | .idle => []
  | .busy _ deadline => dueIf (decide (deadline ≤ s.clock)) (.storeOperationComplete (Config.readBackMatches s.draws))

/-- The timers of the blocks that have run out. -/
def timersDue (s : State) : List Instr :=
  dueEach 224 (fun a => nodeSilenceDue a s) .nodeSilenceExpiry
    ++ (allActuators.filter fun a => returnDue a s).map .returnTimerExpiry
    ++ (allActuators.filter fun a => resendDue a s).map .resendTimerExpiry
    ++ dueIf (proxyDue s) .proxyTimerExpiry
    ++ dueIf (dueAt s.clock s.air.evaluationTimer) .evaluation
    ++ dueEach 48 (fun i => deglitchDue i .stall s) (.fanDeglitchExpiry · .stall)
    ++ dueEach 48 (fun i => deglitchDue i .noLoad s) (.fanDeglitchExpiry · .noLoad)
    ++ dueEach 48 (fun i => deglitchDue i .overspeed s) (.fanDeglitchExpiry · .overspeed)
    ++ dueEach 2048 (fun b => settleDue b s) .baySettleExpiry
    ++ dueEach 8 (fun l => transitDue l s) .transitTimeout
    ++ dueEach 48 (fun i => intervalDue i s) .signIntervalExpiry
    ++ dueIf (lightStepDue s) .lightStep
    ++ dueEach 96 (fun i => holdDue i s) .holdTimerExpiry
    ++ dueEach 96 (fun i => lampDue i s) .lampTimerExpiry
    ++ (s.faults.list.filter fun r => dueAt s.clock r.timer).map (fun r => .retryTimerExpiry r.cls r.addr)
    ++ dueEach 48 (fun i => startDelayDue i s) .startDelayExpiry

/-- The internal events that are due at this instant. Nothing happens while RESET is held; while loading, the ring interface
works and loading completes at the end of its longest time. -/
def internalDue (s : State) : List Instr :=
  match s.phase with
  | .held => []
  | .loading _ deadline => ringDue s ++ dueIf (decide (deadline ≤ s.clock)) .loadingComplete
  | .running =>
    ringDue s ++ dueIf (s.mgmt.restartPending && !portBSending s) .restartEffect ++ serveDue s ++ storeDue s ++ timersDue s

/-- What the part does when no command waits: an internal event that is due, drawn from those due at this instant, joins the
queue; when none is due, the clock moves on by one tick. -/
def tick (s : State) : State :=
  match internalDue s with
  | [] => { s with clock := s.clock + 1 }
  | c :: cs => { s with
      pending := [(c :: cs).getD (draw s (cs.length + 1)) c]
      draws := s.draws + 1 }

end Sys2Proof.Machine
end

