-- ==== Sys2Proof/Machine/Dispatch.lean ====
section
/-! DEFINITION. Machine/Dispatch.lean: the meaning of each command, one arm per constructor. -/

namespace Sys2Proof.Machine

/-- The effect of a command on everything but the queue of waiting commands. -/
def exec (i : Instr) (s : State) : Host.Outcome State Fault Refusal :=
  match i with
  | .powerOn rate addr => Sys2Proof.Machine.execPowerOn rate addr s
  | .resetActive => Sys2Proof.Machine.execResetActive s
  | .resetRelease addr => Sys2Proof.Machine.execResetRelease addr s
  | .loadingComplete => Sys2Proof.Machine.execLoadingComplete s
  | .frameReceived bytes framingError => Sys2Proof.Machine.execFrameReceived bytes framingError s
  | .frameSent => Sys2Proof.Machine.execFrameSent s
  | .arbiterDecision => Sys2Proof.Machine.execArbiterDecision s
  | .ringSilenceExpiry => Sys2Proof.Machine.execRingSilenceExpiry s
  | .nodeSilenceExpiry addr => Sys2Proof.Machine.execNodeSilenceExpiry addr s
  | .returnTimerExpiry a => Sys2Proof.Machine.execReturnTimerExpiry a s
  | .resendTimerExpiry a => Sys2Proof.Machine.execResendTimerExpiry a s
  | .proxyTimerExpiry => Sys2Proof.Machine.execProxyTimerExpiry s
  | .evaluation => Sys2Proof.Machine.execEvaluation s
  | .fanDeglitchExpiry fan test => Sys2Proof.Machine.execFanDeglitchExpiry fan test s
  | .baySettleExpiry bay => Sys2Proof.Machine.execBaySettleExpiry bay s
  | .transitTimeout level => Sys2Proof.Machine.execTransitTimeout level s
  | .signIntervalExpiry sign => Sys2Proof.Machine.execSignIntervalExpiry sign s
  | .lightStep => Sys2Proof.Machine.execLightStep s
  | .holdTimerExpiry group => Sys2Proof.Machine.execHoldTimerExpiry group s
  | .lampTimerExpiry group => Sys2Proof.Machine.execLampTimerExpiry group s
  | .retryTimerExpiry cls addr => Sys2Proof.Machine.execRetryTimerExpiry cls addr s
  | .fireInActive => Sys2Proof.Machine.execFireInActive s
  | .fireInInactive => Sys2Proof.Machine.execFireInInactive s
  | .keyswChange active => Sys2Proof.Machine.execKeyswChange active s
  | .startDelayExpiry fan => Sys2Proof.Machine.execStartDelayExpiry fan s
  | .aim => Sys2Proof.Machine.execAim s
  | .put => Sys2Proof.Machine.execPut s
  | .fetch => Sys2Proof.Machine.execFetch s
  | .keep => Sys2Proof.Machine.execKeep s
  | .stateZone => Sys2Proof.Machine.execStateZone s
  | .stateLevel => Sys2Proof.Machine.execStateLevel s
  | .stateFan => Sys2Proof.Machine.execStateFan s
  | .stateGroup => Sys2Proof.Machine.execStateGroup s
  | .stateSign => Sys2Proof.Machine.execStateSign s
  | .stateSummary => Sys2Proof.Machine.execStateSummary s
  | .stateSummaryRaw => Sys2Proof.Machine.execStateSummaryRaw s
  | .stateRing => Sys2Proof.Machine.execStateRing s
  | .ack => Sys2Proof.Machine.execAck s
  | .clearFaults => Sys2Proof.Machine.execClearFaults s
  | .manual => Sys2Proof.Machine.execManual s
  | .auto => Sys2Proof.Machine.execAuto s
  | .closeLevel => Sys2Proof.Machine.execCloseLevel s
  | .openLevel => Sys2Proof.Machine.execOpenLevel s
  | .holdBays => Sys2Proof.Machine.execHoldBays s
  | .fireOn => Sys2Proof.Machine.execFireOn s
  | .fireOff => Sys2Proof.Machine.execFireOff s
  | .lockPlan => Sys2Proof.Machine.execLockPlan s
  | .unlockPlan => Sys2Proof.Machine.execUnlockPlan s
  | .askNode => Sys2Proof.Machine.execAskNode s
  | .restart => Sys2Proof.Machine.execRestart s
  | .unknownRequest => Sys2Proof.Machine.execUnknownRequest s
  | .restartEffect => Sys2Proof.Machine.execRestartEffect s
  | .storeOperationComplete readBackMatches => Sys2Proof.Machine.execStoreOperationComplete readBackMatches s

end Sys2Proof.Machine
end

