-- ==== Sys2Proof/Safety.lean ====
section
/-! DEFINITION. Safety.lean: what a safe run of the PK-60 is. A run is safe when every state in it meets the rules that the
manual states of the whole machine: its lists keep their bounds, its queues and delivery records agree, the fault list holds
one record a pair, ALERT shows the enabled flags, the plan lock holds the plan, the free counts count the bays, and each
luminaire group's state follows from its causes and its hold timer. The statements' own terms stand here too. -/

namespace Sys2Proof.Machine

/-- The lists keep their capacities (R9, R10, R14, R105, R162). -/
def WithinCapacities (s : State) : Prop :=
  s.ring.relayQueue.length ≤ 8 ∧ s.ring.runCount ≤ 4 ∧ s.ring.insertion.length ≤ 24 ∧ s.mgmt.queue.length ≤ 4
    ∧ ∀ l, l < 8 → (getAt s.guide.levels l).arrivals.length ≤ 32

/-- One for an answer still owed. -/
def owed {α : Type} (x : Option α) : Nat := if x.isSome then 1 else 0

/-- The outgoing list, with the answers still owed to a store operation and to the proxy access, stays within 3 (R163). An
answer is owed only while the engine or the access works. -/
def RepliesBounded (s : State) : Prop :=
  s.phase ≠ .held →
    s.mgmt.outgoing.length + owed s.mgmt.storeSender + owed s.mgmt.proxySender ≤ 3
      ∧ (s.mgmt.storeSender.isSome = true → s.store.engine ≠ .idle)
      ∧ (s.mgmt.proxySender.isSome = true → s.delivery.proxy.state ≠ .idle)

/-- The insertion queue stands in the order of R10: URGENT before NORMAL, and within a class by time of entry; no two frames
entered at one moment. -/
def QueueOrdered (s : State) : Prop :=
  s.ring.insertion.Pairwise (fun f g => f.before g = true)
    ∧ (s.ring.insertion.map (·.entry)).Nodup
    ∧ ∀ f ∈ s.ring.insertion, f.entry < s.ring.nextEntry

/-- The frame is the proxy frame. -/
def QFrame.isProxy (f : QFrame) : Bool :=
  match f.draft.body with
  | .proxy _ _ _ => true
  | .command _ _ | .groupFull _ | .reply _ | .notice => false

/-- The group commands to a group address that stand in the insertion queue or wait for room. -/
def groupFrames (s : State) (g : Nat) : Nat :=
  s.ring.insertion.countP (fun f => decide (f.draft.body = .groupFull g)) + s.ring.claims.count (.group g)

/-- Queue, claims and delivery records agree (R10, R11, R38, R42): a record has one frame queued exactly in QUEUED and one
claim exactly in WAITING_ROOM, an in-flight frame and a return timer exactly in IN_FLIGHT, a resend timer exactly in
RESEND_WAIT; and a claim waits only while the queue is full. -/
def DeliveryAgrees (s : State) : Prop :=
  (∀ a, s.ring.insertion.countP (QFrame.isCommandOf a) = if (s.record a).state = .queued then 1 else 0)
    ∧ (∀ a, s.ring.claims.count (.record a) = if (s.record a).state = .waitingRoom then 1 else 0)
    ∧ (∀ a, ((s.record a).inFlight.isSome = true ↔ (s.record a).state = .inFlight)
        ∧ ((s.record a).returnTimer.isSome = true ↔ (s.record a).state = .inFlight)
        ∧ ((s.record a).resendTimer.isSome = true ↔ (s.record a).state = .resendWait))
    ∧ (s.ring.claims ≠ [] → s.ring.insertion.length = 24)

/-- Claims, outgoing list, proxy access and notice agree (R11, R16, R51, R146, R163): the management block's one claim waits
exactly while a reply or the proxy frame does, the notice's exactly in WAITING_ROOM; the proxy frame and the notice stand
queued once, exactly in QUEUED; and a group address has at most one group command queued or waiting. -/
def ClaimsAgree (s : State) : Prop :=
  s.ring.claims.count .reply = (if s.mgmt.outgoing ≠ [] ∧ s.delivery.proxy.state ≠ .waitingRoom then 1 else 0)
    ∧ s.ring.claims.count .proxy = (if s.delivery.proxy.state = .waitingRoom then 1 else 0)
    ∧ s.ring.claims.count .notice = (if s.faults.notice = .waitingRoom then 1 else 0)
    ∧ s.ring.insertion.countP QFrame.isProxy = (if s.delivery.proxy.state = .queued then 1 else 0)
    ∧ s.ring.insertion.countP (fun f => decide (f.draft.body = .notice)) = (if s.faults.notice = .queued then 1 else 0)
    ∧ ∀ g, groupFrames s g ≤ if 240 ≤ g ∧ g ≤ 254 then 1 else 0

/-- No two frames in flight hold one tag: neither two records, nor a record and the proxy access (R43). -/
def TagsDistinct (s : State) : Prop :=
  (∀ a b f g, (s.record a).inFlight = some f → (s.record b).inFlight = some g → f.tag = g.tag → a = b)
    ∧ (s.delivery.proxy.state = .inFlight → ∀ a f, (s.record a).inFlight = some f → f.tag ≠ s.delivery.proxy.tag)

/-- A bay's settle timer runs exactly while a pending state is present (R99). -/
def SettleTimersFollow (s : State) : Prop :=
  ∀ b, b < 2048 → ((bay s b).timer.isSome = true ↔ (bay s b).pending.isSome = true)

/-- The pair a fault record is for. -/
def FaultRecord.pair (r : FaultRecord) : FaultClass × Nat := (r.cls, r.addr)

/-- The fault list (R134): at most 64 records, one for a pair, and a retry timer exactly in OUT. -/
def FaultListHolds (s : State) : Prop :=
  s.faults.list.length ≤ 64 ∧ (s.faults.list.map (·.pair)).Nodup
    ∧ ∀ r ∈ s.faults.list, (r.timer.isSome = true ↔ r.state = .out)

/-- ALERT is active exactly when at least one set flag is enabled, unless RESET holds it released (R145). -/
def AlertExact (s : State) : Prop := if s.phase = .held then s.faults.alert = false else s.faults.alert = anyEnabledFlag s

/-- The plan a lock request is writing. -/
def StoreOp.plan : StoreOp → Option Plan
  | .keep _ => none
  | .lock p | .unlock p => some p

/-- While the plan lock is set, the working plan equals the plan in the plan area (R158); a lock request under way writes the
working plan, and the engine works only while the part runs (R178). -/
def PlanLockHolds (s : State) : Prop :=
  (s.phase = .running → s.fire.planLock = true → s.store.planArea = .good ⟨s.fire.plan, true⟩)
    ∧ ∀ op deadline, s.store.engine = .busy op deadline → s.phase = .running ∧ ∀ p, op.plan = some p → p = s.fire.plan

/-- Every free count counts what R104 says it counts; before the part runs, every bay is UNKNOWN (R99). -/
def FreeCountsExact (s : State) : Prop :=
  (∀ r, r < 64 → getAt s.guide.rowFree r = countRow s.tables s.guide.bays r)
    ∧ (∀ l, l < 8 → (getAt s.guide.levels l).free = countLevel s.tables s.guide.rowFree l)
    ∧ (s.phase ≠ .running → s.phase ≠ .held → ∀ b, b < 2048 → (getAt s.guide.bays b).state = none)

/-- The state a group's causes and hold timer give it (R119). -/
def GroupRecord.stateByRule (r : GroupRecord) : GroupState :=
  if r.causes.any then .forced else if r.holdTimer.isSome then .hold else .base

/-- Each group's state follows from its forced causes and its hold timer (R119). -/
def GroupStatesFollow (s : State) : Prop := ∀ i, i < 96 → (group s i).state = (group s i).stateByRule

/-- A sign's record is up to date: its computed setting is that of R111 for the state as it stands, it is pending exactly
when the last sent setting differs, and a pending setting waits for the interval timer or for the sign to come back into
service (R112, R113, R115). -/
def SignCurrent (s : State) (i : Nat) : Prop :=
  let r := getAt s.guide.signs i
  let x := signSetting s (getAt s.tables.signs i)
  r.computed = x ∧ (r.pending = true ↔ r.lastSent ≠ some x)
    ∧ (r.pending = true → r.timer.isSome = true ∨ (r.out = true ∧ s.fire.latch = false))

/-- While the part runs, every sign's record is up to date. -/
def SignsCurrent (s : State) : Prop := s.phase = .running → ∀ i, i < 48 → SignCurrent s i

/-- No two equipment entries name one node address (R21). -/
def UniqueAddresses (t : Settings) : Prop :=
  ∀ e ∈ allEquipment t, ∀ f ∈ allEquipment t, e.2.2 ≠ 0 → e.2.2 = f.2.2 → e = f

/-- The working tables, the tables kept in the settings area and the tables being written to it name each address once, and
while the part runs the node map holds for every address the entry that names it (R21, R22). -/
def NodeMapExact (s : State) : Prop :=
  UniqueAddresses s.tables
    ∧ (∀ t, s.store.settingsArea = .good t → UniqueAddresses t)
    ∧ (∀ t deadline, s.store.engine = .busy (.keep t) deadline → UniqueAddresses t)
    ∧ (s.phase = .running → ∀ a, 1 ≤ a → a ≤ 223 → (node s a).equipment = equipmentAt s.tables a)

/-- The rules the manual states of the whole machine. -/
structure Safe (s : State) : Prop where
  capacities : WithinCapacities s
  replies : RepliesBounded s
  ordered : QueueOrdered s
  delivery : DeliveryAgrees s
  faults : FaultListHolds s
  alert : AlertExact s
  planLock : PlanLockHolds s
  counts : FreeCountsExact s
  groups : GroupStatesFollow s
  signs : SignsCurrent s
  nodes : NodeMapExact s
  claims : ClaimsAgree s
  tags : TagsDistinct s
  settle : SettleTimersFollow s

/-! ## Terms the statements use -/

/-- The head of the request queue is `r`, with `rest` behind it; it spells `q`; and it may be served now: the part runs, no
reply waits in the outgoing list, the proxy frame does not wait for room, and no restart waits for port B (R162, R176). -/
structure HeadRequest (s : State) (r : Request) (rest : List Request) (q : Req) : Prop where
  running : s.phase = .running
  outgoing : s.mgmt.outgoing = []
  proxy : s.delivery.proxy.state ≠ .waitingRoom
  restart : s.mgmt.restartPending = false
  queue : s.mgmt.queue = r :: rest
  spells : parseRequest r.payload = q

/-- The state with the request queue as given: what serving its head starts from (R162). -/
def withQueue (rest : List Request) (s : State) : State := { s with mgmt := { s.mgmt with queue := rest } }

/-- A timer runs and its time has come. -/
def Expired (s : State) (t : Timer) : Prop := ∃ e, t = some e ∧ e ≤ s.clock

/-- A condition has been handed to the fault block as present: unless its class is ignored or the list was full, the pair
has a record that shows it (R135, R136). -/
def PresenceHandedOn (c : FaultClass) (addr : Nat) (s t : State) : Prop :=
  (getAt s.tables.responses (classCode c)).mode ≠ .ignore → s.faults.list.length < 64 →
    ∃ r ∈ t.faults.list, r.pair = (c, addr) ∧ (r.present = true ∨ r.state = .active)

/-- The end of a condition has been handed to the fault block: the pair's record, if there is one, has its condition absent
and is not ACTIVE (R137). -/
def EndHandedOn (c : FaultClass) (addr : Nat) (t : State) : Prop :=
  ∀ r ∈ t.faults.list, r.pair = (c, addr) → r.present = false ∧ r.state ≠ .active

/-- A passing REPORT frame, taken while the part runs, from the node of an equipment entry (R4, R23). -/
structure PassingReport (s : State) (bytes : List Byte) (framingError : Bool) (f : Frame) (k : NodeKind) (i : Nat) : Prop where
  running : s.phase = .running
  good : checkFrame bytes framingError = some f
  foreign : f.source ≠ s.ring.ownAddress ∧ f.dest ≠ s.ring.ownAddress
  report : f.kind = 1
  node : f.source ≤ 223 ∧ (node s f.source).equipment = some (k, i)

/-- A presence event as a group takes it (R120). -/
def afterPresence (clock : Nat) (e : GroupEntry) (r : GroupRecord) : GroupRecord :=
  { r with
    holdTimer := some (clock + e.holdTime * second)
    state := if r.state = .forced then .forced else .hold
    target := if r.state = .forced then r.target else e.full }

/-- A deglitched condition after a tested report (R86, R125): `time` is its deglitch time in seconds. -/
def afterTest (clock time : Nat) (holds : Bool) (d : Deglitch) : Deglitch :=
  if d.present then (if holds then d else ⟨none, false⟩)
  else if holds then (if d.timer.isSome then d else ⟨some (clock + time * second), false⟩)
  else ⟨none, false⟩

/-- The two bay states are FREE and TAKEN, in either order: the change is a vehicle's (R101). -/
def vehicleMoved (x y : Option SlotState) : Bool :=
  (decide (x = some .free) && decide (y = some .taken)) || (decide (x = some .taken) && decide (y = some .free))

/-- What moves the clock on has nothing to pass over: the command is that of an event of the part itself whose moment has
come (R14, R15, R17, R20, R25, R46, R48, R51, R70, R86, R101, R107, R113, R120, R124, R125, R138, R155, R162, R178, R181). -/
def EventDue (s : State) (c : Instr) : Prop :=
  match c with
  | .frameSent => s.phase ≠ .held ∧ ∃ frame relayed e, s.ring.portB = .sending frame relayed e ∧ e ≤ s.clock
  | .arbiterDecision => portBIdle s = true ∧ (s.ring.relayQueue ≠ [] ∨ s.ring.insertion ≠ [])
  | .ringSilenceExpiry => s.phase ≠ .held ∧ Expired s s.ring.silenceTimer
  | .loadingComplete => ∃ afterRestart deadline, s.phase = .loading afterRestart deadline ∧ deadline ≤ s.clock
  | .restartEffect => s.phase = .running ∧ s.mgmt.restartPending = true ∧ portBSending s = false
  | .storeOperationComplete ok =>
    s.phase = .running ∧ ok = Config.readBackMatches s.draws ∧ ∃ op deadline, s.store.engine = .busy op deadline ∧ deadline ≤ s.clock
  | .nodeSilenceExpiry a => s.phase = .running ∧ 1 ≤ a ∧ a ≤ 223 ∧ Expired s (node s a).silenceTimer
  | .returnTimerExpiry a =>
    s.phase = .running ∧ a.wellFormed = true ∧ (s.record a).state = .inFlight ∧ Expired s (s.record a).returnTimer
  | .resendTimerExpiry a =>
    s.phase = .running ∧ a.wellFormed = true ∧ (s.record a).state = .resendWait ∧ Expired s (s.record a).resendTimer
  | .proxyTimerExpiry => s.phase = .running ∧ s.delivery.proxy.state = .inFlight ∧ Expired s s.delivery.proxy.timer
  | .evaluation => s.phase = .running ∧ Expired s s.air.evaluationTimer
  | .fanDeglitchExpiry i k => s.phase = .running ∧ i < 48 ∧ Expired s ((fan s i).test k).timer
  | .baySettleExpiry b => s.phase = .running ∧ b < 2048 ∧ Expired s (bay s b).timer
  | .transitTimeout l =>
    s.phase = .running ∧ l < 8 ∧ ∃ x xs, (getAt s.guide.levels l).arrivals = x :: xs
      ∧ (getAt s.tables.levels l).transit * 10 ≤ tenthsSinceStart s - x.time
  | .signIntervalExpiry i => s.phase = .running ∧ i < 48 ∧ Expired s (getAt s.guide.signs i).timer
  | .lightStep => s.phase = .running ∧ Expired s s.light.stepTimer
  | .holdTimerExpiry i => s.phase = .running ∧ i < 96 ∧ Expired s (group s i).holdTimer
  | .lampTimerExpiry i => s.phase = .running ∧ i < 96 ∧ Expired s (group s i).lamp.timer
  | .retryTimerExpiry c a => s.phase = .running ∧ ∃ r ∈ s.faults.list, r.pair = (c, a) ∧ Expired s r.timer
  | .startDelayExpiry i =>
    s.phase = .running ∧ i < 48 ∧ ∃ e, getAt s.fire.startTimers i = .running e ∧ e ≤ s.clock
  | .powerOn _ _ | .resetActive | .resetRelease _ | .frameReceived _ _ | .fireInActive | .fireInInactive | .keyswChange _ =>
    False
  | .aim | .put | .fetch | .keep | .stateZone | .stateLevel | .stateFan | .stateGroup | .stateSign | .stateSummary
  | .stateSummaryRaw | .stateRing | .ack | .clearFaults | .manual | .auto | .closeLevel | .openLevel | .holdBays | .fireOn
  | .fireOff | .lockPlan | .unlockPlan | .askNode | .restart | .unknownRequest =>
    ∃ r rest, HeadRequest s r rest (parseRequest r.payload) ∧ servingCommand (parseRequest r.payload) = c

/-- Every block of `t` is as at reset, at the clock of `s`: the clock of faults and arrivals starts anew, loading has just
begun, the ring-silence timer has just started, and the own address is that of the ADDR strap value. The bit rate and the
store areas are `t`'s own (R3, R19, R181). -/
def Started (addr : Nat) (s t : State) : Prop :=
  t = { State.reset with
    pending := s.pending, clock := s.clock, draws := s.draws, epoch := s.clock
    phase := .loading false (s.clock + 200 * millisecond)
    ring := { State.reset.ring with
      ownAddress := 224 + addr, rate := t.ring.rate, silenceTimer := some (s.clock + 3 * second) }
    store := t.store }

/-- The fields of a frame lie in the ranges of 1.1. -/
structure FrameInRange (f : Frame) : Prop where
  dest : 1 ≤ f.dest ∧ f.dest ≤ 255
  source : 1 ≤ f.source ∧ f.source ≤ 239
  kind : 1 ≤ f.kind ∧ f.kind ≤ 5
  hops : 1 ≤ f.hops ∧ f.hops ≤ 255
  tag : f.tag ≤ 255
  mark : f.mark ≤ 2
  payload : f.payload.length ≤ 48

/-- A report payload has the length and the codes that its kind of equipment gives it (R23, R27, R28, R29, R31, R32). -/
def Readable (k : NodeKind) (payload : List Byte) : Bool :=
  match k with
  | .gas => (parseGas payload).isSome
  | .bay => (parseCluster payload).isSome
  | .lane => (parseLane payload).isSome
  | .fan => (parseDrive payload).isSome
  | .luminaire => (parseLuminaire payload).isSome
  | .sign => true

/-- The record gains the OVERRIDDEN mark at fire entry: a fan test class, OUT or LATCHED (R142). -/
def GainsOverride (r : FaultRecord) : Prop :=
  (r.cls = .fanStall ∨ r.cls = .fanNoLoad ∨ r.cls = .fanOverspeed) ∧ (r.state = .out ∨ r.state = .latched)

/-- `t` is `s` with fire mode entered, whatever the order of the hand-overs (R154, with R84, R108, R114, R122, R142, R155).
-/
structure FireEntered (s t : State) : Prop where
  /-- The latch is set and nothing but the start timers follows in the fire block. -/
  latch : t.fire = { s.fire with latch := true, fireIn := t.fire.fireIn, startTimers := t.fire.startTimers }
  flag : flagSet t .fire = true
  /-- A fan whose plan entry is RUN or STOP is held and its timer started; with no delay it has its plan setting, and with one
  it keeps the command it had. -/
  held : ∀ i, i < 48 → (getAt s.fire.plan i).action ≠ .leave →
    (fan t i).held = true
      ∧ getAt t.fire.startTimers i = (if (getAt s.fire.plan i).delay = 0 then .expired
          else .running (s.clock + (getAt s.fire.plan i).delay * second))
      ∧ ((getAt s.fire.plan i).delay = 0 →
          (t.record (.fan i)).desired = some ⟨.fan (fan t i).commanded, true⟩
            ∧ ((getAt s.fire.plan i).action = .runForward → (fan t i).commanded = ⟨(getAt s.fire.plan i).speed, .forward⟩)
            ∧ ((getAt s.fire.plan i).action = .runReverse → (fan t i).commanded = ⟨(getAt s.fire.plan i).speed, .reverse⟩)
            ∧ ((getAt s.fire.plan i).action = .stop → (fan t i).commanded.speed = 0))
      ∧ ((getAt s.fire.plan i).delay ≠ 0 → (fan t i).commanded = (fan s i).commanded
          ∧ (t.record (.fan i)).desired = (s.record (.fan i)).desired)
  left : ∀ i, i < 48 → (getAt s.fire.plan i).action = .leave →
    (fan t i).held = (fan s i).held ∧ getAt t.fire.startTimers i = getAt s.fire.startTimers i
  groups : ∀ i, i < 96 → (group t i).causes = { (group s i).causes with fire := true } ∧ (group t i).state = .forced
    ∧ (group t i).holdTimer = (group s i).holdTimer
  /-- One group command, URGENT and with tag 0, is queued or waits for each group address that R16 names, and none is added
  to one that still waits. -/
  commands : ∀ g, 240 ≤ g → g ≤ 254 →
    let a := getAt s.tables.control.groupAddresses (g - 240)
    let named := a.defined = true ∧ a.luminaires = true
      ∧ ∃ i, i < 96 ∧ (groupEntry s i).addr ≠ 0 ∧ a.low ≤ (groupEntry s i).addr ∧ (groupEntry s i).addr ≤ a.high
    (named → groupFrames t g = max 1 (groupFrames s g)) ∧ (¬ named → groupFrames t g = groupFrames s g)
      ∧ ∀ f ∈ t.ring.insertion, f.draft.body = .groupFull g → f ∈ s.ring.insertion ∨ f.draft = ⟨true, g, 0, .groupFull g⟩
  levels : ∀ l, l < 8 → getAt t.guide.levels l = { getAt s.guide.levels l with
    reasons := { (getAt s.guide.levels l).reasons with fire := true } }
  /-- Every sign shows EXIT with its fire arrow, sent at once and URGENT. -/
  signs : ∀ i, i < 48 →
    let x : SignSetting := ⟨.exit, (getAt s.tables.signs i).arrowFire⟩
    (getAt t.guide.signs i).computed = x ∧ (getAt t.guide.signs i).lastSent = some x
      ∧ (getAt t.guide.signs i).pending = false
      ∧ (getAt t.guide.signs i).timer = some (s.clock + s.tables.control.signInterval * tenth)
      ∧ (t.record (.sign i)).desired = some ⟨.sign x, true⟩
  /-- The fault list keeps its records in their places; those of R142 are OVERRIDDEN. -/
  records : ∀ (k : Nat) (x : FaultRecord), s.faults.list[k]? = some x → ∃ y : FaultRecord, t.faults.list[k]? = some y ∧ y.pair = x.pair
    ∧ (y.overridden = true ↔ x.overridden = true ∨ GainsOverride x) ∧ (x.state ≠ .active → y.state = x.state)
  count : t.faults.list.length = s.faults.list.length
  /-- Nothing else changes. -/
  frame : t = { s with
    draws := t.draws, ring := t.ring, delivery := t.delivery, fans := t.fans
    guide := { s.guide with levels := t.guide.levels, signs := t.guide.signs }
    light := { s.light with groups := t.light.groups }, faults := t.faults, fire := t.fire, mgmt := t.mgmt }

/-- `u` is what loading leaves just before the blocks take their start-up actions, the latch still to be set: the part runs,
the node map holds the entries of its tables, the evaluation and light step timers have started, every group is as its entry
gives it, and each fan, group and sign has the service state that the kept records give it (R22, R37, R70, R75, R119, R124,
R131, R140, R148, R159). -/
structure Loaded (s u : State) : Prop where
  nodes : ∀ a, 1 ≤ a → a ≤ 223 → node u a = ⟨equipmentAt u.tables a, .unheard, none, .absent, false⟩
  fans : ∀ i, i < 48 → fan u i = { fan s i with service := serviceOf u (fanAddress u i) }
  groups : ∀ i, i < 96 →
    let e := groupEntry u i
    group u i =
      ⟨.base, ⟨false, false, false⟩, none, e.base, none, decide (serviceOf u e.addr ≠ .inService), none, ⟨none, false⟩⟩
  signs : ∀ i, i < 48 → getAt u.guide.signs i =
    { getAt s.guide.signs i with out := decide (serviceOf u (getAt u.tables.signs i).addr ≠ .inService) }
  steps : u.light.stepTimer = some (s.clock + second)
  /-- Nothing else changes but the areas, the tables and the plan. -/
  frame : u = { s with
    phase := .running, store := u.store, tables := u.tables, nodes := u.nodes, fans := u.fans, light := u.light
    air := { s.air with evaluationTimer := some (s.clock + u.tables.control.evaluationPeriod * second) }
    guide := { s.guide with signs := u.guide.signs }
    fire := { s.fire with plan := u.fire.plan, planLock := u.fire.planLock, latch := false, fireHeld := false } }

/-- `t` is `s` with fire mode left, whatever the order of the hand-overs (R156, with R84, R108, R114, R122, R142). -/
structure FireLeft (s t : State) : Prop where
  latch : t.fire = { s.fire with latch := false, startTimers := t.fire.startTimers }
  timers : ∀ i, i < 48 → getAt t.fire.startTimers i = .stopped
  /-- No flag is set or cleared; FIRE waits for an ACK. -/
  flags : t.faults.flags = s.faults.flags
  /-- No fan is held. A fan out of service is stopped or released, a MANUAL fan in service has its manual setting, and an AUTO
  fan that stays in service keeps its commanded setting. What is set is NORMAL. -/
  fans : ∀ i, i < 48 → (fan t i).held = false
    ∧ ((fan t i).service ≠ .inService → (fan t i).commanded.speed = 0)
    ∧ ((fan t i).service = .inService → (fan t i).manualMode = true → (fan t i).commanded = (fan t i).manual
        ∧ (t.record (.fan i)).desired = some ⟨.fan (fan t i).manual, false⟩)
    ∧ ((fan t i).service = .out .stop → (t.record (.fan i)).desired = some ⟨.fan (fan t i).commanded, false⟩)
    ∧ ((fan t i).service = .out .release → (t.record (.fan i)).desired = none)
    ∧ ((fan s i).service = .inService → (fan t i).service = .inService → (fan t i).manualMode = false →
        (fan t i).commanded = (fan s i).commanded ∧ (t.record (.fan i)).desired = (s.record (.fan i)).desired)
    ∧ (fan t i).manualMode = (fan s i).manualMode ∧ (fan t i).manual = (fan s i).manual
  groups : ∀ i, i < 96 → (group t i).causes = { (group s i).causes with fire := false }
    ∧ (group t i).state = (group t i).stateByRule ∧ (group t i).holdTimer = (group s i).holdTimer
  levels : ∀ l, l < 8 → getAt t.guide.levels l = { getAt s.guide.levels l with
    reasons := { (getAt s.guide.levels l).reasons with fire := false } }
  /-- Every sign is computed anew and sent at once; the setting stands as desired and NORMAL, but for a sign that goes out of
  service. -/
  signs : ∀ i, i < 48 →
    let x := signSetting t (getAt s.tables.signs i)
    (getAt t.guide.signs i).computed = x ∧ (getAt t.guide.signs i).lastSent = some x
      ∧ (getAt t.guide.signs i).pending = false
      ∧ (getAt t.guide.signs i).timer = some (s.clock + s.tables.control.signInterval * tenth)
      ∧ (((getAt t.guide.signs i).out = true → (getAt s.guide.signs i).out = true) →
          (t.record (.sign i)).desired = some ⟨.sign x, false⟩)
  /-- The fault list keeps its records in their places, and no OVERRIDDEN mark. -/
  records : ∀ (k : Nat) (x : FaultRecord), s.faults.list[k]? = some x → ∃ y : FaultRecord, t.faults.list[k]? = some y ∧ y.pair = x.pair ∧ y.overridden = false
    ∧ (x.state ≠ .active → y.state = x.state)
  count : t.faults.list.length = s.faults.list.length
  /-- Nothing else changes. -/
  frame : t = { s with
    draws := t.draws, ring := t.ring, delivery := t.delivery, fans := t.fans
    guide := { s.guide with levels := t.guide.levels, signs := t.guide.signs }
    light := { s.light with groups := t.light.groups }, faults := t.faults, fire := t.fire, mgmt := t.mgmt }

/-- `t` is `s` restarted: every block is as at reset at the clock of `s`, with loading just begun, but for what a restart
keeps: the own address, the bit rate and the frame on port B, the fire latch, the lines and the working plan until loading,
the working tables until loading, the store areas, and every LATCHED fault record, in its place, with its condition absent
(R20, R148, R159, R176, R183). -/
def Restarted (s t : State) : Prop :=
  t = { State.reset with
    pending := s.pending, clock := s.clock, draws := s.draws, epoch := s.clock
    phase := .loading true (s.clock + 200 * millisecond)
    ring := { State.reset.ring with
      ownAddress := s.ring.ownAddress, rate := s.ring.rate, portB := s.ring.portB
      silenceTimer := some (s.clock + 3 * second) }
    light := { State.reset.light with groups := s.tables.groups.map freshGroup }
    faults := { State.reset.faults with
      list := (s.faults.list.filter fun r => decide (r.state = .latched)).map fun r =>
        { r with present := false, firstTime := 0, lastTime := 0, overridden := false, timer := none }
      flags := t.faults.flags, alert := anyEnabledFlag t }
    fire := { s.fire with startTimers := Vector.replicate 48 .stopped, fireHeld := false }
    tables := s.tables
    store := { s.store with engine := .idle } }
  ∧ ∀ f, flagSet t f = true ↔ ∃ r ∈ s.faults.list, r.state = .latched ∧ categoryFlag r.cls = f

/-! ### The ranges of the tables' fields -/

/-- A ZONES entry within its ranges (4.3). -/
def ZoneEntry.InRange (e : ZoneEntry) : Prop :=
  e.level ≤ 7 ∧ (10 ≤ e.coFull ∧ e.coFull ≤ 500) ∧ (5 ≤ e.no2Full ∧ e.no2Full ≤ 200) ∧ (1 ≤ e.shift ∧ e.shift ≤ 6)
    ∧ e.substitute ≤ 1000 ∧ e.floor ≤ 1000 ∧ e.trafficFactor ≤ 255 ∧ e.decay ≤ 255
    ∧ (1 ≤ e.up1 ∧ e.up1 ≤ 1000) ∧ (1 ≤ e.up2 ∧ e.up2 ≤ 1000) ∧ (1 ≤ e.up3 ∧ e.up3 ≤ 1000)
    ∧ e.dn1 ≤ 999 ∧ e.dn2 ≤ 999 ∧ e.dn3 ≤ 999 ∧ e.airOff ≤ 100 ∧ e.airLow ≤ 100 ∧ e.airMid ≤ 100 ∧ e.airHigh ≤ 100
    ∧ (1 ≤ e.dwell ∧ e.dwell ≤ 20) ∧ e.alarm ≤ 1000 ∧ e.lightForce ≤ 1000

/-- A GASSENSORS entry within its ranges (4.1). -/
def GasEntry.InRange (e : GasEntry) : Prop := e.addr ≤ 223 ∧ e.zone ≤ 15

/-- A FANS entry within its ranges (5.1). -/
def FanEntry.InRange (e : FanEntry) : Prop :=
  e.addr ≤ 223 ∧ e.zone ≤ 15 ∧ (1 ≤ e.ratedFlow ∧ e.ratedFlow ≤ 500) ∧ (10 ≤ e.minSpeed ∧ e.minSpeed ≤ 60)
    ∧ (1 ≤ e.rampStep ∧ e.rampStep ≤ 100) ∧ (10 ≤ e.stallRatio ∧ e.stallRatio ≤ 90)
    ∧ (5 ≤ e.stallTime ∧ e.stallTime ≤ 120) ∧ e.noLoadCurrent ≤ 500 ∧ (5 ≤ e.noLoadTime ∧ e.noLoadTime ≤ 300)
    ∧ (5 ≤ e.overMargin ∧ e.overMargin ≤ 50) ∧ (5 ≤ e.overTime ∧ e.overTime ≤ 120)

/-- A BAYCLUSTERS entry within its ranges (6.1). -/
def ClusterEntry.InRange (e : ClusterEntry) : Prop := e.addr ≤ 223 ∧ e.first ≤ 2047 ∧ (1 ≤ e.count ∧ e.count ≤ 8)

/-- A BAYS entry within its range (6.1). -/
def BayEntry.InRange (e : BayEntry) : Prop := e.row ≤ 63

/-- A ROWS entry within its ranges (6.1). -/
def RowEntry.InRange (e : RowEntry) : Prop := e.level ≤ 7 ∧ e.zone ≤ 15

/-- A LEVELS entry within its ranges (6.1). -/
def LevelEntry.InRange (e : LevelEntry) : Prop :=
  (1 ≤ e.closure ∧ e.closure ≤ 1000) ∧ e.release ≤ 999 ∧ (30 ≤ e.transit ∧ e.transit ≤ 900)

/-- A LANES entry within its ranges (6.1). -/
def LaneEntry.InRange (e : LaneEntry) : Prop :=
  e.addr ≤ 223 ∧ e.zone ≤ 15 ∧ (∀ l, e.inLevel = some l → l ≤ 7) ∧ (∀ l, e.outLevel = some l → l ≤ 7)
    ∧ e.increment ≤ 255 ∧ (1 ≤ e.jumpLimit ∧ e.jumpLimit ≤ 64)

/-- A SIGNS entry within its ranges (6.1, R98). -/
def SignEntry.InRange (e : SignEntry) : Prop :=
  e.addr ≤ 223 ∧ (1 ≤ e.sources.length ∧ e.sources.length ≤ 8)
    ∧ (∀ x ∈ e.sources, match x with | .row r => r ≤ 63 | .level l => l ≤ 7) ∧ e.holdback ≤ 99 ∧ e.fullThreshold ≤ 99

/-- A GROUPS entry within its ranges (7.1, R118). -/
def GroupEntry.InRange (e : GroupEntry) : Prop :=
  e.addr ≤ 223 ∧ e.zone ≤ 15 ∧ e.level ≤ 7 ∧ (1 ≤ e.triggers.length ∧ e.triggers.length ≤ 8)
    ∧ (∀ x ∈ e.triggers, match x with | .row r => r ≤ 63 | .lane l => l ≤ 31 | .ownMotion => True)
    ∧ e.base ≤ 100 ∧ e.full ≤ 100 ∧ (5 ≤ e.holdTime ∧ e.holdTime ≤ 3600) ∧ (1 ≤ e.fadeStep ∧ e.fadeStep ≤ 100)
    ∧ e.lampThreshold ≤ 5000 ∧ (5 ≤ e.lampTime ∧ e.lampTime ≤ 300) ∧ e.motionIncrement ≤ 255

/-- A RESPONSES entry within its ranges (8.2). -/
def ResponseEntry.InRange (e : ResponseEntry) : Prop :=
  (5 ≤ e.interval ∧ e.interval ≤ 3600) ∧ (1 ≤ e.limit ∧ e.limit ≤ 15)

/-- A PLAN entry within its ranges (9.3). -/
def PlanEntry.InRange (e : PlanEntry) : Prop := (10 ≤ e.speed ∧ e.speed ≤ 100) ∧ e.delay ≤ 60

/-- The CONTROL fields of one part within their ranges (10.4). -/
def Control.InRange (part : Nat) (c : Control) : Prop :=
  match part with
  | 0 =>
    (8 ≤ c.hops ∧ c.hops ≤ 255) ∧ (1 ≤ c.ringSilence ∧ c.ringSilence ≤ 30) ∧ (1 ≤ c.silenceGas ∧ c.silenceGas ≤ 60)
      ∧ (1 ≤ c.silenceBay ∧ c.silenceBay ≤ 60) ∧ (1 ≤ c.silenceLane ∧ c.silenceLane ≤ 60)
      ∧ (1 ≤ c.silenceFan ∧ c.silenceFan ≤ 60) ∧ (1 ≤ c.silenceLuminaire ∧ c.silenceLuminaire ≤ 60)
      ∧ (1 ≤ c.silenceSign ∧ c.silenceSign ≤ 60) ∧ (100 ≤ c.returnTimeout ∧ c.returnTimeout ≤ 2000)
      ∧ (2 ≤ c.resendInterval ∧ c.resendInterval ≤ 100) ∧ c.bayIncrement ≤ 255
      ∧ (2 ≤ c.evaluationPeriod ∧ c.evaluationPeriod ≤ 60) ∧ c.baySettle ≤ 30
      ∧ (5 ≤ c.signInterval ∧ c.signInterval ≤ 300)
  | 1 =>
    (1 ≤ c.panel ∧ c.panel ≤ 239) ∧ (1 ≤ c.managers.length ∧ c.managers.length ≤ 4)
      ∧ ∀ m ∈ c.managers, 1 ≤ m ∧ m ≤ 239
  | 2 | 3 | 4 =>
    ∀ k, 5 * (part - 2) ≤ k → k < 5 * (part - 1) →
      let a := getAt c.groupAddresses k
      (1 ≤ a.low ∧ a.low ≤ 223) ∧ (1 ≤ a.high ∧ a.high ≤ 223)
  | _ => False

/-! ### What a written entry does -/

/-- An equipment entry has taken the node address `new` in place of `old` (R22): the record of each that names a node is set
up afresh, with the entry at the new one, and the conditions the node map holds for it end. -/
def NodeMoved (k : NodeKind) (i old new : Nat) (s t : State) : Prop :=
  (∀ a, a < 224 → node t a =
      if a = new ∧ new ≠ 0 then ⟨some (k, i), .unheard, none, .absent, false⟩
      else if a = old ∧ old ≠ 0 then ⟨none, .unheard, none, .absent, false⟩
      else node s a)
    ∧ ∀ a, (a = old ∨ a = new) → a ≠ 0 →
        ((node s a).liveness = .silent → EndHandedOn .nodeSilent a t)
          ∧ ((node s a).sensorFault = true → EndHandedOn .gasSensorFault a t)

/-- The delivery record of an actuator has followed its entry from `old` to `new` (R50): nothing is taken, the attempts are
0, what is in flight stays, ACTUATOR_NO_TAKE of the old address ends, and a queued frame goes to the new address. -/
def RecordMoved (a : Actuator) (old new : Nat) (s t : State) : Prop :=
  (t.record a).lastTaken = none ∧ (t.record a).attempts = 0 ∧ (t.record a).inFlight = (s.record a).inFlight
    ∧ (noTake s old = true → noTake t old = false ∧ EndHandedOn .actuatorNoTake old t)
    ∧ (∀ b, b ≠ a → (t.record b).desired = (s.record b).desired ∧ (t.record b).lastTaken = (s.record b).lastTaken
        ∧ (t.record b).inFlight = (s.record b).inFlight)
    ∧ ∀ f ∈ t.ring.insertion, f.isCommandOf a = true → f.draft.dest = new

/-- What moving an actuator's entry can touch besides its own block and the tables: the node map, the delivery records and
the ring's queues, the fault list, and what waits for a place that a withdrawn frame frees. -/
def MovedWithin (s t : State) : Prop :=
  t = { s with
    ring := { s.ring with insertion := t.ring.insertion, claims := t.ring.claims, nextEntry := t.ring.nextEntry }
    nodes := t.nodes, delivery := t.delivery, fans := t.fans, guide := { s.guide with signs := t.guide.signs }
    light := { s.light with groups := t.light.groups }
    faults := { s.faults with list := t.faults.list, notice := t.faults.notice }
    mgmt := { s.mgmt with outgoing := t.mgmt.outgoing }, tables := t.tables }

/-- An equipment entry without records of its own has been written (R22): a changed address moves its node. -/
def EntryWritten (k : NodeKind) (i old new : Nat) (tables : Settings) (s t : State) : Prop :=
  (new = old → t = { s with tables := tables })
    ∧ (new ≠ old → NodeMoved k i old new s t
        ∧ t = { s with nodes := t.nodes, faults := { s.faults with list := t.faults.list }, tables := tables })

/-- CONTROL has been written: ALERT is judged by the new flag enables (R145). -/
def ControlWritten (c : Control) (s t : State) : Prop :=
  t = { s with tables := { s.tables with control := c }, faults := { s.faults with alert := t.faults.alert } }
    ∧ (t.faults.alert = true ↔ ∃ k, k < 10 ∧ getAt s.faults.flags k = true ∧ getAt c.enables k = true)

/-- A FANS entry has been written (R22, R50, R74, R92, R140, R155). With a new address every condition of the fan ends with
the old one, its reported values are absent, and its service state is that of the new address; its control mode, manual
setting and hold stay, and so does its commanded setting, unless the service state changes or the hold sets it. A held fan
that now names no node has its plan setting, or its commanded one while its start timer runs, set again. -/
def FanWritten (i : Nat) (e : FanEntry) (s t : State) : Prop :=
  let old := fanAddress s i
  let r := fan s i
  let n := fan t i
  t.tables = { s.tables with fans := setAt s.tables.fans i e }
    ∧ (e.addr = old → t = { s with tables := t.tables })
    ∧ (e.addr ≠ old →
        NodeMoved .fan i old e.addr s t ∧ RecordMoved (.fan i) old e.addr s t ∧ MovedWithin s t
          ∧ (∀ j, j ≠ i → fan t j = fan s j)
          ∧ n = { r with
              commanded := n.commanded, service := serviceOf t e.addr, reported := none, stall := ⟨none, false⟩
              noLoad := ⟨none, false⟩, overspeed := ⟨none, false⟩, trip := false }
          ∧ (r.stall.present = true → EndHandedOn .fanStall old t) ∧ (r.noLoad.present = true → EndHandedOn .fanNoLoad old t)
          ∧ (r.overspeed.present = true → EndHandedOn .fanOverspeed old t) ∧ (r.trip = true → EndHandedOn .fanDriveTrip old t)
          ∧ (n.service = r.service → r.held = false → n.commanded = r.commanded
              ∧ (t.record (.fan i)).desired = if e.addr = 0 then none else (s.record (.fan i)).desired)
          ∧ (r.held = true → e.addr ≠ 0 → n.commanded = r.commanded
              ∧ (t.record (.fan i)).desired = (s.record (.fan i)).desired)
          ∧ (r.held = true → e.addr = 0 →
              n.commanded = (if getAt s.fire.startTimers i = .expired then planSetting s i else r.commanded)
                ∧ (t.record (.fan i)).desired = some ⟨.fan n.commanded, s.fire.latch⟩))

/-- Rows and levels count their bays, the levels keep all else, and the signs are up to date (R104, R112). -/
def CountsFollow (s t : State) : Prop :=
  (∀ r, r < 64 → getAt t.guide.rowFree r = countRow t.tables t.guide.bays r)
    ∧ (∀ l, l < 8 → getAt t.guide.levels l =
        { getAt s.guide.levels l with free := countLevel t.tables t.guide.rowFree l })
    ∧ SignsCurrent t

/-- A BAYCLUSTERS entry has been written (R22, R95): a changed entry starts the bays of its old and its new range from
UNKNOWN, ends BAY_SENSOR_FAULT, and moves its node if the address changed. -/
def ClusterWritten (i : Nat) (e : ClusterEntry) (s t : State) : Prop :=
  let old := getAt s.tables.clusters i
  let within (e : ClusterEntry) (b : Nat) : Prop := e.first ≤ b ∧ b < e.first + e.count
  let w : State := { s with tables := { s.tables with clusters := setAt s.tables.clusters i e } }
  (e = old → t = w)
    ∧ (e ≠ old →
        t = { w with
          ring := { s.ring with insertion := t.ring.insertion, claims := t.ring.claims, nextEntry := t.ring.nextEntry }
          nodes := t.nodes, delivery := t.delivery, guide := t.guide
          faults := { s.faults with list := t.faults.list } }
        ∧ (∀ b, b < 2048 → (within old b ∨ within e b → bay t b = ⟨none, none, none, none⟩)
            ∧ (¬ within old b → ¬ within e b → bay t b = bay s b))
        ∧ t.guide.clusterFault = setAt s.guide.clusterFault i false
        ∧ (getAt s.guide.clusterFault i = true → EndHandedOn .baySensorFault old.addr t)
        ∧ (e.addr = old.addr → t.nodes = s.nodes) ∧ (e.addr ≠ old.addr → NodeMoved .bay i old.addr e.addr s t)
        ∧ CountsFollow s t)

/-- A BAYS or ROWS entry has been written (R96): the bays stay, and counts and signs follow the new tables. -/
def CountingWritten (tables : Settings) (s t : State) : Prop :=
  t = { s with
    ring := { s.ring with insertion := t.ring.insertion, claims := t.ring.claims, nextEntry := t.ring.nextEntry }
    delivery := t.delivery
    guide := { s.guide with rowFree := t.guide.rowFree, levels := t.guide.levels, signs := t.guide.signs }, tables := tables }
  ∧ CountsFollow s t

/-- A LEVELS entry has been written (R97, R107): with a changed transit timeout the arrivals that have reached it leave. -/
def LevelWritten (i : Nat) (e : LevelEntry) (s t : State) : Prop :=
  let w : State := { s with tables := { s.tables with levels := setAt s.tables.levels i e } }
  let r := getAt s.guide.levels i
  let n := getAt t.guide.levels i
  (e.transit = (getAt s.tables.levels i).transit → t = w)
    ∧ (e.transit ≠ (getAt s.tables.levels i).transit →
        t = { w with
          ring := { s.ring with insertion := t.ring.insertion, claims := t.ring.claims, nextEntry := t.ring.nextEntry }
          delivery := t.delivery, guide := { s.guide with levels := t.guide.levels, signs := t.guide.signs } }
        ∧ (∀ l, l ≠ i → getAt t.guide.levels l = getAt s.guide.levels l)
        ∧ n = { r with
            arrivals := r.arrivals.dropWhile fun y => decide (e.transit * 10 ≤ tenthsSinceStart s - y.time), aged := n.aged }
        ∧ (r.aged ≤ 65535 → n.aged = min 65535 (r.aged + (r.arrivals.length - n.arrivals.length)))
        ∧ SignsCurrent t)

/-- A sign's setting has been computed anew and compared with the last sent one (R112, R113, R115): an equal one cancels
what was pending; another is pending while the interval timer runs or the sign is out of service outside fire mode, and is
sent otherwise. -/
def SignOffered (i : Nat) (x : SignSetting) (s t : State) : Prop :=
  let r := getAt s.guide.signs i
  let n := getAt t.guide.signs i
  let free := r.timer = none ∧ (r.out = false ∨ s.fire.latch = true)
  (r.lastSent = some x → n = { r with computed := x, pending := false } ∧ t.delivery = s.delivery)
    ∧ (r.lastSent ≠ some x → ¬ free → n = { r with computed := x, pending := true } ∧ t.delivery = s.delivery)
    ∧ (r.lastSent ≠ some x → free →
        n = { r with
          computed := x, lastSent := some x, pending := false
          timer := some (s.clock + s.tables.control.signInterval * tenth) }
        ∧ (t.record (.sign i)).desired = some ⟨.sign x, s.fire.latch⟩)

/-- A SIGNS entry has been written (R22, R50, R98, R115, R140): the sign is computed anew at once. With a new address nothing
counts as sent, and the service state is that of the new address. -/
def SignWritten (i : Nat) (e : SignEntry) (s t : State) : Prop :=
  let old := (getAt s.tables.signs i).addr
  let r := getAt s.guide.signs i
  let n := getAt t.guide.signs i
  let x := signSetting s e
  t.tables = { s.tables with signs := setAt s.tables.signs i e } ∧ MovedWithin s t
    ∧ (∀ j, j ≠ i → getAt t.guide.signs j = getAt s.guide.signs j)
    ∧ (e.addr = old → SignOffered i x s t ∧ t.nodes = s.nodes ∧ t.faults = s.faults)
    ∧ (e.addr ≠ old →
        NodeMoved .sign i old e.addr s t ∧ RecordMoved (.sign i) old e.addr s t
          ∧ n.computed = x ∧ n.out = decide (serviceOf t e.addr ≠ .inService) ∧ SignCurrent t i
          ∧ (r.timer = none → n.out = false ∨ s.fire.latch = true →
              n.lastSent = some x ∧ (t.record (.sign i)).desired = some ⟨.sign x, s.fire.latch⟩))

/-- A GROUPS entry has been written (R22, R50, R118, R122, R127, R140). With another zone its zone causes are those of the
new zone; with another address LAMP_OPEN ends with the old one, the reported values are absent, and the service state is
that of the new address. The hold timer and the output stay. -/
def GroupWritten (i : Nat) (e : GroupEntry) (s t : State) : Prop :=
  let old := groupEntry s i
  let r := group s i
  let n := group t i
  let z := getAt s.air.zones e.zone
  t.tables = { s.tables with groups := setAt s.tables.groups i e } ∧ MovedWithin s t
    ∧ (∀ j, j ≠ i → group t j = group s j)
    ∧ n = { r with
        state := n.state, target := n.target, causes := n.causes, out := n.out, reported := n.reported, lamp := n.lamp }
    ∧ (e.zone = old.zone → n.causes = r.causes ∧ n.state = r.state ∧ n.target = r.target)
    ∧ (e.zone ≠ old.zone →
        n.causes = { r.causes with
          air := z.evaluated && decide ((getAt s.tables.zones e.zone).lightForce ≤ z.airIndex), shortfall := z.shortfall }
        ∧ (r.state = r.stateByRule → n.state = n.stateByRule))
    ∧ (e.addr = old.addr → n.out = r.out ∧ n.reported = r.reported ∧ n.lamp = r.lamp ∧ t.nodes = s.nodes
        ∧ t.delivery = s.delivery ∧ t.ring = s.ring ∧ t.faults = s.faults)
    ∧ (e.addr ≠ old.addr →
        NodeMoved .luminaire i old.addr e.addr s t ∧ RecordMoved (.group i) old.addr e.addr s t
          ∧ n.out = decide (serviceOf t e.addr ≠ .inService) ∧ n.reported = none ∧ n.lamp = ⟨none, false⟩
          ∧ (r.lamp.present = true → EndHandedOn .lampOpen old.addr t))

/-- A RESPONSES entry has been written (R133): with another action every fan's service state is judged again. -/
def ResponseWritten (i : Nat) (e : ResponseEntry) (s t : State) : Prop :=
  t.tables = { s.tables with responses := setAt s.tables.responses i e } ∧ MovedWithin s t
    ∧ (e.action = (getAt s.tables.responses i).action → t = { s with tables := t.tables })
    ∧ (e.action ≠ (getAt s.tables.responses i).action → ∀ j, j < 48 →
        (fan t j).service = serviceOf t (fanAddress s j)
          ∧ ((fan t j).service = (fan s j).service → fan t j = fan s j))

/-- A PUT has taken one entry (R168): the entry as its bytes give it, clamped or not, is in its table, and `t` is what its
own chapter makes of it. FAN_DRIVE_TRIP and RING_SILENT take IGNORE as REPORT, which counts as a clamp (R133). -/
def EntryTaken (table i : Nat) (bytes rest : List Byte) (clamped : Bool) (s t : State) : Prop :=
  let same {α : Type} (r : Reader α) (effect : α → Prop) : Prop := ∃ e, r (bytes, false) = some (e, rest, clamped) ∧ effect e
  match table with
  | 0 => same (readControl i s.tables.control) fun c => ControlWritten c s t
  | 1 => same readZone fun e => t = { s with tables := { s.tables with zones := setAt s.tables.zones i e } }
  | 2 => same readGas fun e => EntryWritten .gas i (getAt s.tables.gasSensors i).addr e.addr
      { s.tables with gasSensors := setAt s.tables.gasSensors i e } s t
  | 3 => same readFan fun e => FanWritten i e s t
  | 4 => same readCluster fun e => ClusterWritten i e s t
  | 5 => same readBay fun e => CountingWritten { s.tables with bays := setAt s.tables.bays i e } s t
  | 6 => same readRow fun e => CountingWritten { s.tables with rows := setAt s.tables.rows i e } s t
  | 7 => same readLevels fun e => LevelWritten i e s t
  | 8 => same readLane fun e => EntryWritten .lane i (getAt s.tables.lanes i).addr e.addr
      { s.tables with lanes := setAt s.tables.lanes i e } s t
  | 9 => same readSign fun e => SignWritten i e s t
  | 10 => same readGroup fun e => GroupWritten i e s t
  | 11 => ∃ e k, readResponse (bytes, false) = some (e, rest, k) ∧
      let w := if (i = 3 ∨ i = 9) ∧ e.mode = .ignore then { e with mode := .report } else e
      clamped = (k || decide (w ≠ e)) ∧ ResponseWritten i w s t
  | 12 => same readPlan fun e => t = { s with fire := { s.fire with plan := setAt s.fire.plan i e } }
  | _ => False

/-- Another equipment entry than entry `i` of kind `k` names the node address; address 0 names nothing (R21). -/
def NamedElsewhere (t : Settings) (k : NodeKind) (i addr : Nat) : Prop :=
  addr ≠ 0 ∧ ∃ k' j, (k', j) ≠ (k, i) ∧ equipmentAddress t k' j = addr
    ∧ j < match k' with | .gas => 64 | .bay => 256 | .lane => 32 | .fan => 48 | .luminaire => 96 | .sign => 48

/-- The bytes give no entry that may be written: none can be read from them, or the one that can is bad (R168). -/
def BadEntry {α : Type} (r : Reader α) (bytes : List Byte) (bad : α → Prop) : Prop :=
  ∀ e rest clamped, r (bytes, false) = some (e, rest, clamped) → bad e

/-- A PUT stops at this entry (R168): its bytes are no entry of the table, or a check of its own chapter refuses it (R16,
R21, R59, R95, R97, R98, R118). -/
def EntryRefused (table i : Nat) (bytes : List Byte) (s : State) : Prop :=
  let t := s.tables
  match table with
  | 0 => BadEntry (readControl i t.control) bytes fun c =>
      ¬ c.managers.Nodup ∨ ∃ k, k < 15 ∧ (getAt c.groupAddresses k).high < (getAt c.groupAddresses k).low
  | 1 => BadEntry readZone bytes fun e =>
      e.up1 ≤ e.dn1 ∨ e.up2 ≤ e.dn2 ∨ e.up3 ≤ e.dn3 ∨ e.up2 ≤ e.up1 ∨ e.up3 ≤ e.up2
  | 2 => BadEntry readGas bytes fun e => NamedElsewhere t .gas i e.addr
  | 3 => BadEntry readFan bytes fun e => NamedElsewhere t .fan i e.addr
  | 4 => BadEntry readCluster bytes fun e => NamedElsewhere t .bay i e.addr ∨ (e.addr ≠ 0 ∧ ∃ j b, j < 256 ∧ b < 2048 ∧ j ≠ i ∧
      let o := getAt t.clusters j
      o.addr ≠ 0 ∧ (e.first ≤ b ∧ b < e.first + e.count) ∧ o.first ≤ b ∧ b < o.first + o.count)
  | 5 => BadEntry readBay bytes fun _ => False
  | 6 => BadEntry readRow bytes fun _ => False
  | 7 => BadEntry readLevels bytes fun e => e.closure ≤ e.release
  | 8 => BadEntry readLane bytes fun e => NamedElsewhere t .lane i e.addr
  | 9 => BadEntry readSign bytes fun e => ¬ e.sources.Nodup ∨ NamedElsewhere t .sign i e.addr
  | 10 => BadEntry readGroup bytes fun e => ¬ e.triggers.Nodup ∨ NamedElsewhere t .luminaire i e.addr
  | 11 => BadEntry readResponse bytes fun _ => False
  | 12 => BadEntry readPlan bytes fun _ => False
  | _ => True

/-- The commands that serve a request (R162). -/
def servesRequest : Instr → Bool
  | .aim | .put | .fetch | .keep | .stateZone | .stateLevel | .stateFan | .stateGroup | .stateSign | .stateSummary
  | .stateSummaryRaw | .stateRing | .ack | .clearFaults | .manual | .auto | .closeLevel | .openLevel | .holdBays
  | .fireOn | .fireOff | .lockPlan | .unlockPlan | .askNode | .restart | .unknownRequest => true
  | .powerOn _ _ | .resetActive | .resetRelease _ | .loadingComplete | .frameReceived _ _ | .frameSent
  | .arbiterDecision | .ringSilenceExpiry | .nodeSilenceExpiry _ | .returnTimerExpiry _ | .resendTimerExpiry _
  | .proxyTimerExpiry | .evaluation | .fanDeglitchExpiry _ _ | .baySettleExpiry _ | .transitTimeout _
  | .signIntervalExpiry _ | .lightStep | .holdTimerExpiry _ | .lampTimerExpiry _ | .retryTimerExpiry _ _
  | .fireInActive | .fireInInactive | .keyswChange _ | .startDelayExpiry _ | .restartEffect
  | .storeOperationComplete _ => false

/-- The commands that nothing but the RESET line and power act against: power-on and the two edges of RESET (R19, R181). -/
def startsPart : Instr → Bool
  | .powerOn _ _ | .resetActive | .resetRelease _ => true
  | .loadingComplete | .frameReceived _ _ | .frameSent | .arbiterDecision | .ringSilenceExpiry | .nodeSilenceExpiry _
  | .returnTimerExpiry _ | .resendTimerExpiry _ | .proxyTimerExpiry | .evaluation | .fanDeglitchExpiry _ _
  | .baySettleExpiry _ | .transitTimeout _ | .signIntervalExpiry _ | .lightStep | .holdTimerExpiry _
  | .lampTimerExpiry _ | .retryTimerExpiry _ _ | .fireInActive | .fireInInactive | .keyswChange _
  | .startDelayExpiry _ | .aim | .put | .fetch | .keep | .stateZone | .stateLevel | .stateFan | .stateGroup
  | .stateSign | .stateSummary | .stateSummaryRaw | .stateRing | .ack | .clearFaults | .manual | .auto | .closeLevel
  | .openLevel | .holdBays | .fireOn | .fireOff | .lockPlan | .unlockPlan | .askNode | .restart | .unknownRequest
  | .restartEffect | .storeOperationComplete _ => false

end Sys2Proof.Machine
end

