-- ==== Sys2Proof/Certificates/Slice0/Obligations.lean ====
section
/-! DEFINITION. Certificates/Slice0/Obligations.lean: what the provers are asked to prove of the model, one proposition each,
from the manual's rules. `SignsCurrent` and the other properties of Safety.lean that stand as premises are invariants of the
part, stated themselves below. -/

open Sys2Proof Sys2Proof.Machine

/-! ## The machine as a whole -/

/-- A step with a command at the front of the queue is that command's meaning, run with the queue's rest. On an empty queue
(the model's choice, log 1) the clock moves on by one tick exactly when no event of the part itself is due, so that no timer
is passed over; and otherwise one of the events that are due is put into the queue. -/
def Obligations.StepRunsFront : Prop :=
  (∀ (s : State) (c : Instr) (rest : List Instr), s.pending = c :: rest → step s = exec c { s with pending := rest })
    ∧ ∀ s : State, s.pending = [] →
        ((∀ c, ¬ EventDue s c) → step s = .next { s with clock := s.clock + 1 })
          ∧ ((∃ c, EventDue s c) → ∃ c, EventDue s c ∧ step s = .next { s with pending := [c], draws := s.draws + 1 })

/-- Every command is taken in every state, and none of them touches the waiting commands, the clock or the draws already
made; and only power-on and the release of RESET read the straps (R3). That a command which is ill-formed or not due is taken
too, and then does nothing, is the model's choice (logs 3, 4); the waiting commands, the clock and the draws are the model's
own (logs 1, 2, 6). -/
def Obligations.EveryCommandIsTaken : Prop :=
  ∀ (c : Instr) (s : State), ∃ t, exec c s = .next t ∧ t.pending = s.pending ∧ t.clock = s.clock ∧ s.draws ≤ t.draws
    ∧ ((∀ rate addr, c ≠ .powerOn rate addr) → t.ring.rate = s.ring.rate
        ∧ ((∀ addr, c ≠ .resetRelease addr) → t.ring.ownAddress = s.ring.ownAddress))

/-- While RESET is held and port B rests, only power-on and the RESET line do anything (R19); and no request is served
before the part runs, while a reply or the proxy frame waits for room, while a restart waits, or from an empty queue (R162,
R176). That a command which is no event of such a moment leaves the state as it is, is the model's choice (logs 3, 5, 14). -/
def Obligations.NotReadyNothingDone : Prop :=
  ∀ (c : Instr) (s : State),
    (s.phase = .held → s.ring.portB = .resting → startsPart c = false → exec c s = .next s)
      ∧ (servesRequest c = true →
          (s.phase ≠ .running ∨ s.mgmt.outgoing ≠ [] ∨ s.delivery.proxy.state = .waitingRoom
            ∨ s.mgmt.restartPending = true ∨ s.mgmt.queue = []) →
          exec c s = .next s)

/-- What reset leaves, where the manual states it: the queues, lists and counters of every block empty or 0, every timer
stopped but for ring silence at 3 s, every field of the records of nodes, actuators, sensors, zones, fans, bays, levels and
groups, and of the signs but for the computed setting, no flag and no cause set, no notice pending (R9, R11, R14, R17, R18,
R19, R37, R38, R51, R53, R60, R73, R75, R99, R105, R117, R119, R131, R146, R148, R159, R165, R176, R178). -/
def Obligations.ResetValues : Prop :=
  let s := State.reset
  s.ring.relayQueue = [] ∧ s.ring.insertion = [] ∧ s.ring.claims = [] ∧ s.ring.runCount = 0
    ∧ (s.ring.relayed = 0 ∧ s.ring.badCheck = 0 ∧ s.ring.hopExpiry = 0 ∧ s.ring.relayFull = 0)
    ∧ s.ring.silenceTimer = some (3 * second) ∧ s.ring.ringSilent = false ∧ s.ring.portB = .resting
    ∧ (∀ a, a < 224 → node s a = ⟨none, .unheard, none, .absent, false⟩)
    ∧ (∀ a : Actuator, a.wellFormed = true → s.record a = ⟨none, none, none, 0, .idle, none, none⟩)
    ∧ (∀ a, noTake s a = false)
    ∧ s.delivery.tagCounter = 0 ∧ s.delivery.proxy.state = .idle ∧ s.delivery.proxy.timer = none
    ∧ (∀ i, i < 64 → getAt s.air.sensors i = ⟨none, none, none⟩)
    ∧ (∀ z, z < 16 → getAt s.air.zones z = ⟨false, 0, none, 0, 0, 0, 0, .off, 0, 0, false, false⟩)
    ∧ s.air.evaluationTimer = none
    ∧ (∀ i, i < 48 → fan s i = ⟨false, ⟨0, .forward⟩, ⟨0, .forward⟩, .inService, false, none, ⟨none, false⟩, ⟨none, false⟩,
        ⟨none, false⟩, false⟩)
    ∧ (∀ b, b < 2048 → bay s b = ⟨none, none, none, none⟩)
    ∧ (∀ r, r < 64 → getAt s.guide.rowFree r = 0)
    ∧ (∀ l, l < 8 → getAt s.guide.levels l = ⟨0, [], 0, 0, ⟨false, false, false, false⟩⟩ ∧ levelClosed s l = false)
    ∧ (∀ i, i < 48 → getAt s.guide.signs i =
        { getAt s.guide.signs i with lastSent := none, timer := none, pending := false, out := false })
    ∧ (∀ c, c < 256 → getAt s.guide.clusterFault c = false)
    ∧ (∀ i, i < 96 → group s i =
        ⟨.base, ⟨false, false, false⟩, none, (groupEntry s i).base, none, false, none, ⟨none, false⟩⟩)
    ∧ s.light.stepTimer = none
    ∧ s.faults.list = [] ∧ (∀ f, flagSet s f = false) ∧ s.faults.alert = false
    ∧ (∀ z, z < 16 → getAt s.faults.gasHigh z = false ∧ getAt s.faults.shortfall z = false)
    ∧ (∀ f, f < 10 → getAt s.faults.risen f = false) ∧ s.faults.notice = .none ∧ s.faults.noticeNumber = 0
    ∧ s.fire.latch = false ∧ s.fire.planLock = false ∧ (∀ i, i < 48 → getAt s.fire.startTimers i = .stopped)
    ∧ s.fire.fireIn = false ∧ s.fire.fireHeld = false ∧ s.fire.keysw = false
    ∧ s.mgmt = ⟨[], [], ⟨0, 0, 0⟩, none, none, false⟩ ∧ s.store.engine = .idle

/-- Reset meets every rule of `Safe`. -/
def Obligations.ResetIsSafe : Prop := Safe State.reset

/-- POWER_ON and RESET_RELEASE start every block afresh and begin loading: the own address is 224 plus the ADDR strap value,
power-on takes the rate and RESET keeps it. RESET_ACTIVE holds the part: port B stops at once, ALERT is released, and
nothing else changes before the release. Each leaves bad the area that a store operation under way was writing (R3, R15,
R19, R145, R180, R181). That the blocks keep their state until the release, that a release while RESET is not held does
nothing, and that power-on stands for the loss of power too and ends a held RESET, is the model's choice (logs 3, 4, 14, 17,
43); so are the values that reset leaves open, the straps of the reset state and the moment from which times are counted
(logs 11, 12, 13). -/
def Obligations.PowerAndResetStart : Prop :=
  ∀ s : State,
    let stored : Store := match s.store.engine with
      | .idle => s.store
      | .busy (.keep _) _ => { s.store with settingsArea := .bad, engine := .idle }
      | .busy _ _ => { s.store with planArea := .bad, engine := .idle }
    exec .resetActive s = .next
        { s with phase := .held, ring := { s.ring with portB := .resting }, faults := { s.faults with alert := false }
                 store := stored }
      ∧ ∀ rate addr : Nat, addr < 16 →
          (rate < 4 → ∃ t, exec (.powerOn rate addr) s = .next t ∧ t.ring.rate = rate ∧ t.store = stored ∧ Started addr s t)
            ∧ (s.phase = .held → ∃ t, exec (.resetRelease addr) s = .next t ∧ t.ring.rate = s.ring.rate
                ∧ t.store = stored ∧ Started addr s t)
            ∧ (s.phase ≠ .held → exec (.resetRelease addr) s = .next s)

/-- LOADING_COMPLETE: each area is judged whole by its check, and one that does not match is bad until it is written; the
tables and the plan come from the areas or from their defaults, the map is built from them, the evaluation and light step
timers start, the service states follow the kept records, and the fire latch is as the start gives it. Then each block takes
its start-up action. With the latch set, fire mode is entered with every hand-over; and after that every sign is computed
and sent. FIRE is set by the latch and STORE by a bad area, every enabled flag that is set joins the risen set of the notice,
and ALERT is judged. A fan held out with STOP has speed 0 set at once, unless the plan holds it. With the latch clear nothing
else changes (R37, R70, R75, R94, R117, R119, R124, R140, R142, R145, R146, R148, R153, R154, R159, R177, R181, R182).
Whether a check matches is a free value (log 18). That a held change of FIRE_IN sets the latch with the start-up actions,
and that a stop keeps the direction, are the model's readings (logs 19, 30). `NodeMapExact` is an invariant of the part. -/
def Obligations.LoadingCompletes : Prop :=
  ∀ (s : State) (afterRestart : Bool) (deadline : Nat), s.phase = .loading afterRestart deadline →
    let settings := if Config.areaCheckMatches s.draws 0 then s.store.settingsArea else .bad
    let plan := if Config.areaCheckMatches s.draws 1 then s.store.planArea else .bad
    let latch := s.fire.fireHeld || (if afterRestart then s.fire.latch else s.fire.fireIn)
    ∃ u t, exec .loadingComplete s = .next t ∧ Loaded s u ∧ t.phase = .running ∧ t.fire.latch = latch
      ∧ u.store = { s.store with settingsArea := settings, planArea := plan }
      ∧ u.tables = (match settings with | .good x => x | .bad => defaultSettings)
      ∧ (u.fire.plan, u.fire.planLock) = (match plan with | .good x => (x.plan, x.lock) | .bad => (defaultPlan, false))
      ∧ (latch = true → FireEntered u t ∧ t.fire.fireIn = s.fire.fireIn)
      ∧ (latch = false → t = { u with
          draws := t.draws, ring := t.ring, delivery := t.delivery, fans := t.fans, faults := t.faults
          guide := { u.guide with signs := t.guide.signs } })
      ∧ (∀ f, flagSet t f = true ↔ flagSet s f = true ∨ (f = .fire ∧ latch = true)
          ∨ (f = .store ∧ (settings = .bad ∨ plan = .bad)))
      ∧ t.faults.alert = anyEnabledFlag t
      ∧ (let rises (k : Nat) : Bool := getAt t.faults.flags k && getAt t.tables.control.enables k
         (∀ k, k < 10 → getAt t.faults.risen k = (getAt s.faults.risen k || rises k))
          ∧ (t.faults.notice = .none ↔ s.faults.notice = .none ∧ ∀ k, k < 10 → rises k = false))
      ∧ t.faults.noticeNumber = s.faults.noticeNumber
      ∧ (∀ f ∈ t.ring.insertion, f.draft.body = .notice →
          f ∈ s.ring.insertion ∨ f.draft = ⟨true, t.tables.control.panel, s.faults.noticeNumber, .notice⟩)
      ∧ SignsCurrent t
      ∧ (∀ i, i < 48 → latch = false → (getAt u.guide.signs i).out = false →
          (getAt s.guide.signs i).lastSent = none → (getAt s.guide.signs i).timer = none →
          let n := getAt t.guide.signs i
          n.lastSent = some n.computed ∧ n.timer = some (s.clock + t.tables.control.signInterval * tenth)
            ∧ (t.record (.sign i)).desired = some ⟨.sign n.computed, false⟩)
      ∧ (∀ i, i < 48 →
          let n := fan t i
          (n.service = .out .stop → (latch = false ∨ (getAt t.fire.plan i).action = .leave) →
              n.commanded = ⟨0, (fan s i).commanded.direction⟩
                ∧ (t.record (.fan i)).desired = some ⟨.fan n.commanded, latch⟩)
            ∧ (n.service ≠ .out .stop → latch = false → n = fan u i ∧ t.record (.fan i) = s.record (.fan i)))
      ∧ (NodeMapExact s → ∀ i,
          (i < 48 → fanAddress t i ≤ 223 → (fan t i).service = serviceOf t (fanAddress t i))
            ∧ (i < 96 → (groupEntry t i).addr ≤ 223 →
                (group t i).out = decide (serviceOf t (groupEntry t i).addr ≠ .inService))
            ∧ (i < 48 → (getAt t.tables.signs i).addr ≤ 223 →
                (getAt t.guide.signs i).out = decide (serviceOf t (getAt t.tables.signs i).addr ≠ .inService)))

/-! ## The ring interface (chapter 1) -/

/-- The checker accepts exactly the frames that are written: a frame whose fields lie in the ranges of 1.1 is read back
field by field from its bytes, and whatever is accepted is, byte for byte, the frame that its fields write (R1). -/
def Obligations.FrameBytesRoundTrip : Prop :=
  (∀ f : Frame, FrameInRange f → checkFrame f.bytes false = some f ∧ checkFrame f.bytes true = none)
    ∧ ∀ (bytes : List Byte) (framingError : Bool) (f : Frame),
        checkFrame bytes framingError = some f → framingError = false ∧ FrameInRange f ∧ f.bytes = bytes

/-- FRAME_RECEIVED, a frame that fails a test: it is dropped, counted as a bad check up to 65535, and changes nothing else;
while RESET is held nothing is taken (R1, R18, R19). -/
def Obligations.BadFrameIsCounted : Prop :=
  ∀ (bytes : List Byte) (framingError : Bool) (s : State),
    (s.phase = .held → exec (.frameReceived bytes framingError) s = .next s)
      ∧ (s.phase ≠ .held → checkFrame bytes framingError = none →
          exec (.frameReceived bytes framingError) s = .next
            { s with ring := { s.ring with
                badCheck := if s.ring.badCheck < 65535 then s.ring.badCheck + 1 else s.ring.badCheck } })

/-- FRAME_RECEIVED, a good frame that no block takes (an own frame that is no COMMAND to a single address, or a frame for the
part that is no REQUEST, or a late return that matches no frame in flight): the ring-silence timer restarts and RING_SILENT
ends, and nothing else changes (R5, R6, R17, R44). `SignsCurrent` is an invariant of the part. -/
def Obligations.GoodFrameRestartsSilence : Prop :=
  ∀ (bytes : List Byte) (framingError : Bool) (f : Frame) (s : State),
    s.phase ≠ .held → SignsCurrent s → checkFrame bytes framingError = some f →
    ((f.source = s.ring.ownAddress ∧ (f.kind ≠ 2 ∨ 239 < f.dest))
      ∨ (f.source ≠ s.ring.ownAddress ∧ f.dest = s.ring.ownAddress ∧ f.kind ≠ 3)
      ∨ (f.source = s.ring.ownAddress ∧ (∀ a, recordMatches s f.dest f.tag a = false)
          ∧ proxyMatches s f.dest f.tag = false)) →
    ∃ t, exec (.frameReceived bytes framingError) s = .next t
      ∧ t = { s with ring := t.ring, faults := t.faults }
      ∧ t.ring = { s.ring with
          ringSilent := false
          silenceTimer := some (s.clock +
            if s.phase = .running then s.tables.control.ringSilence * second else 3 * second) }
      ∧ (s.ring.ringSilent = false → t.faults = s.faults)
      ∧ (s.ring.ringSilent = true → t.faults = { s.faults with list := s.faults.list.map fun r =>
          if r.cls = .ringSilent ∧ r.addr = s.ring.ownAddress then
            { r with present := false, state := if r.state = .active then .ended else r.state }
          else r })

/-- FRAME_RECEIVED, a passing frame: it is dropped and counted when its hops run out or the relay queue holds 8 frames, and
otherwise joins the tail with one hop less and a new check, every other byte as it arrived. A frame that is no REPORT
changes nothing else but what every good frame does (R7, R8, R17, R18). -/
def Obligations.PassingFrameIsRelayed : Prop :=
  ∀ (bytes : List Byte) (framingError : Bool) (f : Frame) (s : State),
    s.phase ≠ .held → checkFrame bytes framingError = some f →
    f.source ≠ s.ring.ownAddress → f.dest ≠ s.ring.ownAddress →
    ∃ t, exec (.frameReceived bytes framingError) s = .next t
      ∧ (f.hops = 1 → t.ring.hopExpiry = bump s.ring.hopExpiry ∧ t.ring.relayFull = s.ring.relayFull
          ∧ t.ring.relayQueue = s.ring.relayQueue)
      ∧ (1 < f.hops → 8 ≤ s.ring.relayQueue.length → t.ring.hopExpiry = s.ring.hopExpiry
          ∧ t.ring.relayFull = bump s.ring.relayFull ∧ t.ring.relayQueue = s.ring.relayQueue)
      ∧ (1 < f.hops → s.ring.relayQueue.length < 8 → t.ring.hopExpiry = s.ring.hopExpiry
          ∧ t.ring.relayFull = s.ring.relayFull
          ∧ ∃ g : List Byte, t.ring.relayQueue = s.ring.relayQueue ++ [g] ∧ g.length = bytes.length
              ∧ checkFrame g false = some { f with hops := f.hops - 1 }
              ∧ ∀ k, k ≠ 3 → k + 2 < bytes.length → g[k]? = bytes[k]?)
      ∧ t.ring.ringSilent = false ∧ t.ring.silenceTimer = (ringHeard s).ring.silenceTimer
      ∧ (SignsCurrent s → f.kind ≠ 1 →
          t = { s with
            ring := { (ringHeard s).ring with
              relayQueue := t.ring.relayQueue, hopExpiry := t.ring.hopExpiry, relayFull := t.ring.relayFull }
            faults := (ringHeard s).faults })

/-- What a report payload says, by the kind of its node: the fields in order, each code in its set and each value clamped to
the top of its range, 65535 being no reading; no other payload can be read (R27, R28, R29, R31, R32). FRAME_RECEIVED, a
passing REPORT while the part runs: one from a node of the map that its kind can read makes the node LIVE, restarts its
silence timer and ends a NODE_SILENT that was present; one from an address the map names no equipment for, or that its kind
cannot read, is discarded, and changes no more than any other passing frame (R23, R24, R26). -/
def Obligations.ReportIsHeard : Prop :=
  (∀ (payload : List Byte) (x : GasReport), parseGas payload = some x ↔ ∃ a b c d e : Byte, payload = [a, b, c, d, e]
      ∧ x.co = (if a = 255#8 ∧ b = 255#8 then none else some (min 1000 (a.toNat * 256 + b.toNat)))
      ∧ x.no2 = (if c = 255#8 ∧ d = 255#8 then none else some (min 200 (c.toNat * 256 + d.toNat)))
      ∧ e.toNat = (match x.status with | .ok => 0 | .warming => 1 | .fault => 2))
    ∧ (∀ (payload : List Byte) (xs : List SlotState), parseCluster payload = some xs ↔
        1 ≤ xs.length ∧ xs.length ≤ 8 ∧ payload.map (·.toNat)
          = xs.length :: xs.map fun x => match x with | .free => 0 | .taken => 1 | .fault => 2)
    ∧ (∀ (payload : List Byte) (i o : Nat), parseLane payload = some (i, o) ↔ payload.map (·.toNat) = [i, o])
    ∧ (∀ (payload : List Byte) (x : DriveReport), parseDrive payload = some x ↔ ∃ a b c d e : Byte, payload = [a, b, c, d, e]
        ∧ x.speed = min 110 a.toNat ∧ x.current = min 2000 (b.toNat * 256 + c.toNat)
        ∧ d.toNat = (match x.direction with | .forward => 0 | .reverse => 1)
        ∧ e.toNat = (match x.status with | .running => 0 | .stopped => 1 | .tripped => 2))
    ∧ (∀ (payload : List Byte) (x : LampReport) (n : Nat), parseLuminaire payload = some (x, n) ↔
        ∃ a b c d : Byte, payload = [a, b, c, d] ∧ x.output = min 100 a.toNat
          ∧ x.current = min 5000 (b.toNat * 256 + c.toNat) ∧ n = d.toNat)
    ∧ ∀ (bytes : List Byte) (framingError : Bool) (f : Frame) (s : State),
    s.phase = .running → checkFrame bytes framingError = some f →
    f.source ≠ s.ring.ownAddress → f.dest ≠ s.ring.ownAddress → f.kind = 1 →
    ∃ t, exec (.frameReceived bytes framingError) s = .next t
      ∧ (∀ k i, f.source ≤ 223 → (node s f.source).equipment = some (k, i) → Readable k f.payload = true →
          (node t f.source).liveness = .live
            ∧ (node t f.source).silenceTimer = some (s.clock + silenceInterval s.tables.control k * second)
            ∧ ((node s f.source).liveness = .silent → EndHandedOn .nodeSilent f.source t)
            ∧ ∀ a, a ≠ f.source → node t a = node s a)
      ∧ ((223 < f.source ∨ (node s f.source).equipment = none
            ∨ ∃ k i, (node s f.source).equipment = some (k, i) ∧ Readable k f.payload = false) →
          SignsCurrent s →
          t = { s with
            ring := { (ringHeard s).ring with
              relayQueue := t.ring.relayQueue, hopExpiry := t.ring.hopExpiry, relayFull := t.ring.relayFull }
            faults := (ringHeard s).faults })

/-- FRAME_RECEIVED, a REQUEST for the part: it joins the request queue, is dropped when the queue holds 4, is answered
NOT_PERMITTED (or not at all, when there is no room) when its sender is no manager, and is discarded before the part runs
(R6, R161, R163). The code byte that answers an empty payload is a free value (the model's choice, log 24). -/
def Obligations.RequestArrives : Prop :=
  ∀ (bytes : List Byte) (framingError : Bool) (f : Frame) (s : State),
    s.phase ≠ .held → SignsCurrent s → checkFrame bytes framingError = some f →
    f.source ≠ s.ring.ownAddress → f.dest = s.ring.ownAddress → f.kind = 3 →
    exec (.frameReceived bytes framingError) s = .next
      (let h := ringHeard s
       if s.phase ≠ .running then h
       else if f.source ∉ s.tables.control.managers then
        (if hasRoom s = true then
          enter ⟨false, f.source, f.tag, .reply [f.payload.head?.getD Config.missingCodeByte, 6#8]⟩ h
         else h)
       else if 4 ≤ s.mgmt.queue.length then h
       else { h with mgmt := { s.mgmt with queue := s.mgmt.queue ++ [⟨f.source, f.tag, f.payload⟩] } })

/-- FRAME_SENT: once the last check byte has gone, the gap of 2 characters begins and a relayed frame is counted; the
character times are those of the straps (R2, R15, R18). Before its time the command does nothing (the model's choice, log
3). -/
def Obligations.FrameSentBeginsGap : Prop :=
  (∀ rate, 20 * charTicks rate = match rate with | 0 => 80 | 1 => 40 | _ => 20)
    ∧ ∀ (s : State) (frame : List Byte) (relayed : Bool) (endsAt : Nat),
        s.ring.portB = .sending frame relayed endsAt →
        (endsAt ≤ s.clock → exec .frameSent s = .next
          { s with ring := { s.ring with
              portB := .gap (s.clock + 2 * charTicks s.ring.rate)
              relayed := if relayed = true ∧ s.ring.relayed < 65535 then s.ring.relayed + 1 else s.ring.relayed } })
          ∧ (s.clock < endsAt → exec .frameSent s = .next s)

/-- ARBITER_DECISION, the table of R14: which queue sends on an idle port B, and the run count after. An own frame that
starts has the Destination its block gave it, the own address, its Kind code, the CONTROL hop count as it stands, the tag
its block gave it or, for a command of a record and the proxy frame, a free one, mark NONE, and the payload of its kind: the
setting, the proxy access, full level for a group, the reply, or the notice as it stands (R13, R14, R16, R40, R43, R51,
R146, R163). That the command does nothing while port B is not idle, or with both queues empty, is the model's choice (log
3); the level byte of a group command is a free value (log 23), and the 4 bytes of a proxy frame are the model's reading
(log 26). -/
def Obligations.ArbiterDecides : Prop :=
  ∀ s : State,
    (portBIdle s = false ∨ (s.ring.relayQueue = [] ∧ s.ring.insertion = []) → exec .arbiterDecision s = .next s)
      ∧ (∀ g gs, portBIdle s = true → s.ring.relayQueue = g :: gs → (s.ring.insertion = [] ∨ s.ring.runCount < 4) →
          exec .arbiterDecision s = .next { s with ring := { s.ring with
            relayQueue := gs
            runCount := if s.ring.insertion = [] then 0 else s.ring.runCount + 1
            portB := .sending g true (s.clock + g.length * charTicks s.ring.rate) } })
      ∧ (∀ f fs, portBIdle s = true → s.ring.insertion = f :: fs → (s.ring.relayQueue = [] ∨ 4 ≤ s.ring.runCount) →
          let g : Frame :=
            { dest := f.draft.dest
              source := s.ring.ownAddress
              kind := match f.draft.body with | .command _ _ | .groupFull _ | .proxy _ _ _ => 2 | .reply _ => 4 | .notice => 5
              hops := s.tables.control.hops
              tag := match f.draft.body with
                | .command _ _ | .proxy _ _ _ => freeTag s.delivery
                | .groupFull _ | .reply _ | .notice => f.draft.tag
              mark := 0
              payload := match f.draft.body with
                | .command _ (.fan x) => [0#8, 1#8, b8 x.speed, match x.direction with | .forward => 0#8 | .reverse => 1#8]
                | .command _ (.luminaire n) => [0#8, 2#8, b8 n]
                | .command _ (.sign x) =>
                  [0#8, 3#8] ++ (match x.mode with
                    | .number v => 0#8 :: b16 v
                    | .full => [1#8, 0#8, 0#8]
                    | .closed => [2#8, 0#8, 0#8]
                    | .exit => [3#8, 0#8, 0#8])
                  ++ [match x.arrow with
                    | .none => 0#8 | .left => 1#8 | .right => 2#8 | .ahead => 3#8 | .upRamp => 4#8 | .downRamp => 5#8]
                | .groupFull a => [0#8, 2#8, Config.groupCommandLevel a]
                | .proxy op id value => b8 op :: b8 id :: b16 value
                | .reply bytes => bytes
                | .notice => noticePayload s }
          finishedFrame s f.draft = g
            ∧ ∃ t, exec .arbiterDecision s = .next t ∧ t.ring.runCount = 0 ∧ t.ring.relayQueue = s.ring.relayQueue
              ∧ t.ring.portB = .sending g.bytes false (s.clock + g.bytes.length * charTicks s.ring.rate))

/-- ARBITER_DECISION, an own frame that starts: the frame leaves the queue and its block is told. A record goes IN_FLIGHT
with the first tag from the tag counter on that no frame in flight holds (at most 193 of the 256 tags are in flight), and
its return timer starts; the proxy access likewise; a notice starts the next notice number; a reply or a group command
changes nothing more. Then the place it frees is given to the claim at the head of the claims list: a record builds its
frame from its desired setting as it then stands, or rests and passes the place on when it has none or no address; the
management block puts in its reply or the proxy frame and offers the replies that wait behind it; the fault block puts in
the notice; the ring interface the group command (R11, R13, R42, R43, R51, R146, R163). Where no place is free or no claim
waits, nothing is given. -/
def Obligations.OwnFrameStarts : Prop :=
  (∀ (s : State) (f : QFrame) (fs : List QFrame), portBIdle s = true → s.ring.insertion = f :: fs →
    (s.ring.relayQueue = [] ∨ 4 ≤ s.ring.runCount) →
    tagInFlight s.delivery (freeTag s.delivery) = false ∧ freeTag s.delivery < 256 ∧
    (∃ k, k < 256 ∧ freeTag s.delivery = (s.delivery.tagCounter + k) % 256
      ∧ ∀ j, j < k → tagInFlight s.delivery ((s.delivery.tagCounter + j) % 256) = true) ∧
    (∀ n, tagInFlight s.delivery n = true ↔
      (∃ a g, (s.record a).inFlight = some g ∧ g.tag = n)
        ∨ (s.delivery.proxy.state = .inFlight ∧ s.delivery.proxy.tag = n)) ∧
    ∃ t, exec .arbiterDecision s = .next (giveRoom t)
      ∧ (s.ring.claims = [] → giveRoom t = t)
      ∧ t.ring = { s.ring with insertion := fs, runCount := 0, portB := t.ring.portB }
      ∧ (∀ a x, f.draft.body = .command a x →
          t = { s.setRecord a { s.record a with
                  state := .inFlight, inFlight := some ⟨x, freeTag s.delivery, f.draft.dest⟩
                  returnTimer := some (s.clock + s.tables.control.returnTimeout * millisecond) } with
                ring := t.ring
                delivery := { (s.setRecord a { s.record a with
                    state := .inFlight, inFlight := some ⟨x, freeTag s.delivery, f.draft.dest⟩
                    returnTimer := some (s.clock + s.tables.control.returnTimeout * millisecond) }).delivery with
                  tagCounter := (freeTag s.delivery + 1) % 256 } })
      ∧ (∀ op id value, f.draft.body = .proxy op id value →
          t = { s with ring := t.ring, delivery := { s.delivery with
            tagCounter := (freeTag s.delivery + 1) % 256
            proxy := { s.delivery.proxy with
              state := .inFlight, tag := freeTag s.delivery
              timer := some (s.clock + s.tables.control.returnTimeout * millisecond) } } })
      ∧ (f.draft.body = .notice →
          t = { s with ring := t.ring, faults := { s.faults with
            risen := Vector.replicate 10 false, notice := .none
            noticeNumber := (s.faults.noticeNumber + 1) % 256 } })
      ∧ (∀ payload g, f.draft.body = .reply payload ∨ f.draft.body = .groupFull g → t = { s with ring := t.ring }))
    ∧ ∀ (s : State) (c : Claim) (cs : List Claim),
        let u : State := { s with ring := { s.ring with claims := cs } }
        let offered (rs : List Reply) (v : State) : State := offerOutgoing rs v
        (24 ≤ s.ring.insertion.length ∨ s.ring.claims = [] → giveRoom s = s)
          ∧ (∀ (r : Reply) (rs : List Reply) (v : State),
              offered [] v = { v with mgmt := { v.mgmt with outgoing := [] } }
                ∧ (hasRoom v = true → offered (r :: rs) v = offered rs (enter ⟨false, r.dest, r.tag, .reply r.payload⟩ v))
                ∧ (hasRoom v = false → offered (r :: rs) v =
                    claim .reply { v with mgmt := { v.mgmt with outgoing := r :: rs } }))
          ∧ (s.ring.insertion.length < 24 → s.ring.claims = c :: cs →
              (∀ a d, c = .record a → (s.record a).desired = some d → actuatorAddress s.tables a ≠ 0 →
                  giveRoom s = enter ⟨d.urgent, actuatorAddress s.tables a, 0, .command a d.setting⟩
                    (u.setRecord a { s.record a with state := .queued }))
                ∧ (∀ a, c = .record a → (s.record a).desired = none ∨ actuatorAddress s.tables a = 0 →
                    giveRoom s = giveRoom (u.setRecord a { s.record a with state := .idle }))
                ∧ (∀ r rs, c = .reply → s.mgmt.outgoing = r :: rs →
                    giveRoom s = offered rs (enter ⟨false, r.dest, r.tag, .reply r.payload⟩ u))
                ∧ (c = .proxy → let p := s.delivery.proxy
                    let v := enter ⟨false, p.target, 0, .proxy p.op p.id p.value⟩
                      { u with delivery := { s.delivery with proxy := { p with state := .queued } } }
                    giveRoom s = if s.mgmt.outgoing = [] then v else offered s.mgmt.outgoing v)
                ∧ (c = .notice → giveRoom s = enter ⟨true, s.tables.control.panel, s.faults.noticeNumber, .notice⟩
                    { u with faults := { s.faults with notice := .queued } })
                ∧ (∀ g, c = .group g → giveRoom s = enter ⟨true, g, 0, .groupFull g⟩ u))

/-! ## Command delivery (chapter 3) -/

/-- A job sets a desired setting. It is URGENT in fire mode. An IDLE record offers a frame if the setting is not the last
taken one, and is QUEUED or joins the claims; a QUEUED record has it written into its frame, which keeps its time of entry
and may become URGENT but not NORMAL; any other record keeps it for later (R12, R39, R40, R41, R42). The two premises are
invariants of the part. A job withdraws its desired setting: a QUEUED record's frame leaves the queue and gives its place to
a claim, a waiting record's claim goes, and both rest; RESEND_WAIT ends with no attempts; a frame in flight stays (R11,
R49). -/
def Obligations.DesiredSettingIsSent : Prop :=
  (∀ (a : Actuator) (s : State),
    let r := { s.record a with desired := none }
    (r.state = .idle ∨ r.state = .inFlight → withdraw a s = s.setRecord a r)
      ∧ (r.state = .resendWait → withdraw a s = s.setRecord a { r with state := .idle, attempts := 0, resendTimer := none })
      ∧ (r.state = .waitingRoom → withdraw a s =
          { s.setRecord a { r with state := .idle } with
            ring := { s.ring with claims := s.ring.claims.filter fun c => decide (c ≠ .record a) } })
      ∧ (r.state = .queued → withdraw a s = giveRoom
          { s.setRecord a { r with state := .idle } with
            ring := { s.ring with insertion := s.ring.insertion.filter fun f => !f.isCommandOf a } }))
    ∧ ∀ (a : Actuator) (x : Setting) (s : State), a.wellFormed = true → QueueOrdered s → DeliveryAgrees s →
    let t := setDesired a x s
    let r := { s.record a with desired := some ⟨x, s.fire.latch⟩ }
    (∀ b, b ≠ a → t.record b = s.record b)
      ∧ t = { s with ring := t.ring, delivery := t.delivery }
      ∧ (r.state = .inFlight ∨ r.state = .resendWait ∨ r.state = .waitingRoom → t = s.setRecord a r)
      ∧ (r.state = .idle → r.lastTaken = some x → t = s.setRecord a r)
      ∧ (r.state = .idle → r.lastTaken ≠ some x → actuatorAddress s.tables a = 0 → t = s.setRecord a r)
      ∧ (r.state = .idle → r.lastTaken ≠ some x → actuatorAddress s.tables a ≠ 0 → hasRoom s = true →
          t = enter ⟨s.fire.latch, actuatorAddress s.tables a, 0, .command a x⟩ (s.setRecord a { r with state := .queued }))
      ∧ (r.state = .idle → r.lastTaken ≠ some x → actuatorAddress s.tables a ≠ 0 → hasRoom s = false →
          t = claim (.record a) (s.setRecord a { r with state := .waitingRoom }))
      ∧ (r.state = .queued →
          t.record a = r ∧ QueueOrdered t ∧ t.ring = { s.ring with insertion := t.ring.insertion }
            ∧ ∃ f ∈ s.ring.insertion, f.isCommandOf a = true
              ∧ t.ring.insertion.Perm
                  ({ f with draft := { f.draft with urgent := f.draft.urgent || s.fire.latch, body := .command a x } }
                    :: s.ring.insertion.filter fun g => !g.isCommandOf a))

/-- FRAME_RECEIVED, the return of a record's own frame marked TAKEN: the setting is the last taken one, nothing is in flight,
the attempts are 0, ACTUATOR_NO_TAKE of the address ends, its end handed to the fault block if it was present, and the record
rests, or offers the frame of what it was set meanwhile, which enters the queue or claims room (R5, R11, R40, R42, R44,
R45). -/
def Obligations.TakenReturnEndsSeries : Prop :=
  ∀ (bytes : List Byte) (framingError : Bool) (f : Frame) (a : Actuator) (x : Setting) (s : State),
    s.phase ≠ .held → SignsCurrent s → a.wellFormed = true → checkFrame bytes framingError = some f →
    f.source = s.ring.ownAddress → f.kind = 2 → f.dest ≤ 239 → f.mark = 1 →
    (s.record a).state = .inFlight → (s.record a).inFlight = some ⟨x, f.tag, f.dest⟩ →
    (∀ b, recordMatches s f.dest f.tag b = true → b = a) → proxyMatches s f.dest f.tag = false →
    ∃ t, exec (.frameReceived bytes framingError) s = .next t
      ∧ t = { s with ring := t.ring, delivery := t.delivery, faults := { s.faults with list := t.faults.list } }
      ∧ (∀ b, b ≠ a → t.record b = s.record b)
      ∧ (t.record a).lastTaken = some x ∧ (t.record a).inFlight = none ∧ (t.record a).attempts = 0
      ∧ (t.record a).returnTimer = none ∧ (t.record a).desired = (s.record a).desired
      ∧ (t.record a).state =
          (match (s.record a).desired with
          | none => .idle
          | some d =>
            if d.setting = x ∨ actuatorAddress s.tables a = 0 then .idle
            else if hasRoom s = true then .queued else .waitingRoom)
      ∧ noTake t f.dest = false
      ∧ (noTake s f.dest = true → EndHandedOn .actuatorNoTake f.dest t)
      ∧ (noTake s f.dest = false → t.faults = (ringHeard s).faults)
      ∧ (let h := ringHeard s
         t.ring = match (s.record a).desired with
          | none => h.ring
          | some d =>
            if d.setting = x ∨ actuatorAddress s.tables a = 0 then h.ring
            else if hasRoom s = true then (enter ⟨d.urgent, actuatorAddress s.tables a, 0, .command a d.setting⟩ h).ring
            else (claim (.record a) h).ring)
      ∧ t.ring.portB = s.ring.portB ∧ t.ring.relayQueue = s.ring.relayQueue

/-- RETURN_TIMER_EXPIRY, a return of a record's own frame that is not marked TAKEN, and RESEND_TIMER_EXPIRY. The first is a
failed attempt: a withdrawn record rests; a frame sent to an address no longer named counts no attempt; the first two
failures wait for the resend timer, and the third ends the series, keeps the desired and the last taken setting, and makes
ACTUATOR_NO_TAKE present for the address if it was not. The second, marked NONE or REFUSED, is the same failed attempt at
its moment. The third builds the record's frame from the desired setting as it then stands, whatever was last taken, and
offers it; the attempts carry on, and without a node address no frame is built (R40, R42, R44, R46, R47, R48, R49, R50).
That the record rests before ACTUATOR_NO_TAKE is handed on is the model's choice (log 7). -/
def Obligations.DeliveryTimersExpire : Prop :=
  (∀ (a : Actuator) (g : InFlight) (s : State), s.phase = .running → a.wellFormed = true →
    (s.record a).state = .inFlight → (s.record a).inFlight = some g → Expired s (s.record a).returnTimer →
    let r := { s.record a with inFlight := none, returnTimer := none }
    let wait := some (s.clock + s.tables.control.resendInterval * tenth)
    ((s.record a).desired = none →
        exec (.returnTimerExpiry a) s = .next (s.setRecord a { r with state := .idle, attempts := 0 }))
      ∧ ((s.record a).desired ≠ none → actuatorAddress s.tables a ≠ g.dest →
          exec (.returnTimerExpiry a) s = .next (s.setRecord a { r with state := .resendWait, resendTimer := wait }))
      ∧ ((s.record a).desired ≠ none → actuatorAddress s.tables a = g.dest → (s.record a).attempts < 2 →
          exec (.returnTimerExpiry a) s = .next
            (s.setRecord a { r with state := .resendWait, attempts := r.attempts + 1, resendTimer := wait }))
      ∧ ((s.record a).desired ≠ none → actuatorAddress s.tables a = g.dest → 2 ≤ (s.record a).attempts →
          exec (.returnTimerExpiry a) s = .next
            (let t := s.setRecord a { r with state := .idle, attempts := 0 }
             if noTake s g.dest = true then t
             else presence .actuatorNoTake g.dest
              { t with delivery := { t.delivery with noTake := setAt t.delivery.noTake g.dest true } })))
    ∧ (∀ (bytes : List Byte) (framingError : Bool) (f : Frame) (a : Actuator) (x : Setting) (s : State),
        s.phase = .running → SignsCurrent s → a.wellFormed = true → checkFrame bytes framingError = some f →
        f.source = s.ring.ownAddress → f.kind = 2 → f.dest ≤ 239 → f.mark ≠ 1 →
        (s.record a).state = .inFlight → (s.record a).inFlight = some ⟨x, f.tag, f.dest⟩ →
        (∀ b, recordMatches s f.dest f.tag b = true → b = a) → proxyMatches s f.dest f.tag = false →
        exec (.frameReceived bytes framingError) s = exec (.returnTimerExpiry a)
          ((ringHeard s).setRecord a { s.record a with returnTimer := some s.clock }))
    ∧ ∀ (a : Actuator) (s : State), s.phase = .running → a.wellFormed = true →
    (s.record a).state = .resendWait → Expired s (s.record a).resendTimer →
    let r := { s.record a with resendTimer := none }
    (∀ d, (s.record a).desired = some d → actuatorAddress s.tables a ≠ 0 →
        exec (.resendTimerExpiry a) s = .next
          (if hasRoom s = true then
            enter ⟨d.urgent, actuatorAddress s.tables a, 0, .command a d.setting⟩
              (s.setRecord a { r with state := .queued })
           else claim (.record a) (s.setRecord a { r with state := .waitingRoom })))
      ∧ ((s.record a).desired = none ∨ actuatorAddress s.tables a = 0 →
          exec (.resendTimerExpiry a) s = .next (s.setRecord a { r with state := .idle }))

/-- The proxy access ends with the expiry of its timer or with its return, and its sender is answered: no answer (code 7) at
an expiry, DONE for a return marked TAKEN with the value sent for a WRITE and the two value bytes of the returned frame for
a READ, REFUSED BY NODE (code 8) and no answer for the other marks (R51, R160, R175). The widths are the model's reading
(logs 26, 27). -/
def Obligations.ProxyAccessEnds : Prop :=
  ∀ (s : State) (w : Sender), s.mgmt.proxySender = some w → s.delivery.proxy.state = .inFlight →
    let ended (content : List Byte) (t : State) : State := sendReply ⟨w.source, w.tag, 17#8 :: content⟩
      { t with
        delivery := { t.delivery with proxy := { t.delivery.proxy with state := .idle, timer := none } }
        mgmt := { t.mgmt with proxySender := none } }
    (s.phase = .running → Expired s s.delivery.proxy.timer → exec .proxyTimerExpiry s = .next (ended [7#8] s))
      ∧ ∀ (bytes : List Byte) (framingError : Bool) (f : Frame), s.phase ≠ .held → SignsCurrent s →
          checkFrame bytes framingError = some f → f.source = s.ring.ownAddress → f.kind = 2 → f.dest ≤ 239 →
          f.dest = s.delivery.proxy.target → f.tag = s.delivery.proxy.tag →
          exec (.frameReceived bytes framingError) s = .next
            (ended (if f.mark = 1 then 0#8 :: (if s.delivery.proxy.op = 2 then b16 s.delivery.proxy.value
                else (f.payload.drop 2).take 2)
              else if f.mark = 2 then [8#8] else [7#8])
              (ringHeard s))

/-! ## The air block (chapter 4) -/

/-- FRAME_RECEIVED, a gas sensor head's report. Its status becomes the last status. The first report since the head was not
LIVE clears both averages. With status OK each reading that is present moves its average: an absent one becomes 16 times
the reading, and a present one moves toward 16 times the reading by the distance divided by 2 to the filter shift, by at
least 1 and never past it. A change of the sensor fault is handed on (R27, R54, R55). -/
def Obligations.GasReportIsFiltered : Prop :=
  (∀ (k : Nat) (avg : Option Nat) (r a : Nat), filterStep k avg none = avg ∧ filterStep k none (some r) = some (16 * r)
      ∧ (a = 16 * r → filterStep k (some a) (some r) = some a)
      ∧ (a < 16 * r → filterStep k (some a) (some r) = some (a + max 1 ((16 * r - a) / 2 ^ k)))
      ∧ (16 * r < a → filterStep k (some a) (some r) = some (a - max 1 ((a - 16 * r) / 2 ^ k))))
    ∧ ∀ (bytes : List Byte) (framingError : Bool) (f : Frame) (s : State) (i : Nat) (x : GasReport),
        s.phase = .running → checkFrame bytes framingError = some f →
        f.source ≠ s.ring.ownAddress → f.dest ≠ s.ring.ownAddress → f.kind = 1 → f.source ≤ 223 →
        (node s f.source).equipment = some (.gas, i) → i < 64 → parseGas f.payload = some x →
        let before := getAt s.air.sensors i
        let heard := decide ((node s f.source).liveness = .live)
        let co := if heard then before.co else none
        let no2 := if heard then before.no2 else none
        let k := (getAt s.tables.zones (getAt s.tables.gasSensors i).zone).shift
        ∃ t, exec (.frameReceived bytes framingError) s = .next t
          ∧ t.air = { s.air with sensors := t.air.sensors }
          ∧ (∀ j, j ≠ i → getAt t.air.sensors j = getAt s.air.sensors j)
          ∧ (getAt t.air.sensors i).lastStatus = some x.status
          ∧ (getAt t.air.sensors i).co = (if x.status = .ok then filterStep k co x.co else co)
          ∧ (getAt t.air.sensors i).no2 = (if x.status = .ok then filterStep k no2 x.no2 else no2)
          ∧ (node t f.source).sensorFault = decide (x.status = .fault)
          ∧ (x.status = .fault → (node s f.source).sensorFault = false → PresenceHandedOn .gasSensorFault f.source s t)
          ∧ (x.status ≠ .fault → (node s f.source).sensorFault = true → EndHandedOn .gasSensorFault f.source t)

/-- EVALUATION decays every zone's traffic load: a load above 0 by floor(load × decay / 256) or by 1, whichever is larger,
and a load of 0 not at all; with a decay of at most 255 the amount is at most the load, 0 takes 1, and 255 leaves
ceil(load / 256) of a load above 1 and nothing of 1. The decay comes before the traffic index, which is that of the decayed
load (R62, R63). -/
def Obligations.TrafficLoadDecays : Prop :=
  ∀ s : State, s.phase = .running → Expired s s.air.evaluationTimer →
    ∃ t, exec .evaluation s = .next t ∧ ∀ z, z < 16 →
      let decay := (getAt s.tables.zones z).decay
      let load := (getAt s.air.zones z).load
      let after := (getAt t.air.zones z).load
      (0 < load → after = load - max (load * decay / 256) 1)
        ∧ (load = 0 → after = 0)
        ∧ (0 < load → decay ≤ 255 → max (load * decay / 256) 1 ≤ load ∧ after + max (load * decay / 256) 1 = load)
        ∧ (0 < load → decay = 0 → after + 1 = load)
        ∧ (decay = 255 → load = 1 → after = 0)
        ∧ (decay = 255 → 1 < load → after = (load + 255) / 256)
        ∧ (getAt t.air.zones z).trafficIndex = min 1000 (after * (getAt s.tables.zones z).trafficFactor / 64)

/-- EVALUATION works every zone: the air index is the largest of the usable sensors' indices, from the lowest entry that has
it, or the substitute index; traffic index, demand, stage, dwell count and target airflow follow from it and the zone's
entry; GAS_HIGH is set from the alarm index; and the timer restarts with the period as it stands. It touches no table, no
sensor record, no request and no store. Afterwards a level has AIR by its closure and release indices, and SHORTFALL exactly
while a zone of it is in shortfall; and a group has AIR by its zone's light force index, and follows a change of its zone's
SHORTFALL flag (R57, R58, R60, R63 to R68, R70, R109, R110, R122). -/
def Obligations.EvaluationWorksZones : Prop :=
  (∀ (e : ZoneEntry) (demand dwell : Nat) (st : Stage), zoneOrdered e = true →
      let n := nextStage e demand st dwell
      (st = .high ∨ demand < (match st with | .off => e.up1 | .low => e.up2 | _ => e.up3) →
          n = if st ≠ .off ∧ demand < (match st with | .high => e.dn3 | .mid => e.dn2 | _ => e.dn1) ∧ e.dwell ≤ dwell then
              ((match st with | .high => .mid | .mid => .low | _ => .off), 0)
            else (st, min 20 (dwell + 1)))
        ∧ (st ≠ .high → (match st with | .off => e.up1 | .low => e.up2 | _ => e.up3) ≤ demand →
            n = (if e.up3 ≤ demand then .high else if e.up2 ≤ demand then .mid else .low, 0)))
    ∧ (∀ (s : State) (z i x : Nat), (i, x) ∈ usableSensors s z ↔
        let e := getAt s.tables.gasSensors i
        let r := getAt s.air.sensors i
        let part (full avg : Nat) : Nat := min 1000 (avg * 1000 / (16 * full))
        let co := r.co.map (part (getAt s.tables.zones z).coFull)
        let no2 := r.no2.map (part (getAt s.tables.zones z).no2Full)
        i < 64 ∧ e.zone = z ∧ e.addr ≠ 0 ∧ (node s e.addr).liveness = .live ∧ r.lastStatus = some .ok
          ∧ serviceOf s e.addr = .inService ∧ (co = some x ∨ no2 = some x)
          ∧ (∀ y, co = some y → y ≤ x) ∧ (∀ y, no2 = some y → y ≤ x))
    ∧ ∀ s : State, s.phase = .running → Expired s s.air.evaluationTimer →
        ∃ t, exec .evaluation s = .next t
          ∧ (∀ l, l < 8 →
              let r := getAt s.guide.levels l
              let n := getAt t.guide.levels l
              let e := getAt s.tables.levels l
              let inLevel (z : Nat) : Prop := z < 16 ∧ (getAt s.tables.zones z).level = l
              n = { r with reasons := { r.reasons with air := n.reasons.air, shortfall := n.reasons.shortfall } }
                ∧ (n.reasons.shortfall = true ↔ ∃ z, inLevel z ∧ (getAt t.air.zones z).shortfall = true)
                ∧ ((∃ z, inLevel z ∧ e.closure ≤ (getAt t.air.zones z).airIndex) → n.reasons.air = true)
                ∧ ((∀ z, inLevel z → (getAt t.air.zones z).airIndex < e.closure ∧ (getAt t.air.zones z).airIndex < e.release) →
                    n.reasons.air = false)
                ∧ ((∀ z, inLevel z → (getAt t.air.zones z).airIndex < e.closure) →
                    (∃ z, inLevel z ∧ e.release ≤ (getAt t.air.zones z).airIndex) → n.reasons.air = r.reasons.air))
          ∧ (∀ i z, i < 96 → z < 16 → (groupEntry s i).zone = z →
              (group t i).causes = { (group s i).causes with
                air := decide ((getAt s.tables.zones z).lightForce ≤ (getAt t.air.zones z).airIndex)
                shortfall := if (getAt t.air.zones z).shortfall = (getAt s.air.zones z).shortfall
                  then (group s i).causes.shortfall else (getAt t.air.zones z).shortfall }
              ∧ (group t i).holdTimer = (group s i).holdTimer ∧ (group t i).output = (group s i).output)
          ∧ t = { s with
              ring := t.ring, delivery := t.delivery, air := t.air, fans := t.fans, guide := t.guide, light := t.light
              faults := t.faults }
          ∧ t.air.sensors = s.air.sensors
          ∧ t.air.evaluationTimer = some (s.clock + s.tables.control.evaluationPeriod * second)
          ∧ ∀ z, z < 16 →
              let e := getAt s.tables.zones z
              let r := getAt s.air.zones z
              let n := getAt t.air.zones z
              let us := usableSensors s z
              n.evaluated = true ∧ n.usable = us.length
                ∧ (us = [] → n.airIndex = e.substitute ∧ n.source = none)
                ∧ (us ≠ [] → ∃ i x, (i, x) ∈ us ∧ n.airIndex = x ∧ n.source = some i
                    ∧ ∀ j y, (j, y) ∈ us → y ≤ x ∧ (y = x → i ≤ j))
                ∧ n.trafficIndex = min 1000 (n.load * e.trafficFactor / 64)
                ∧ n.demand = max (max n.airIndex n.trafficIndex) e.floor
                ∧ (n.stage, n.dwell) = nextStage e n.demand r.stage r.dwell
                ∧ n.airflow = (match n.stage with
                    | .off => e.airOff | .low => e.airLow | .mid => e.airMid | .high => e.airHigh)
                ∧ n.gasHigh = decide (e.alarm ≤ n.airIndex)
                ∧ getAt t.faults.gasHigh z = n.gasHigh
                ∧ (n.gasHigh = true → flagSet t .gasHigh = true)

/-! ## The fan block (chapter 5) -/

/-- The arithmetic of an allocation. The automatic share is the required flow of the zone's fans less the flow of its manual
and held fans, and the available capacity is that of its automatic fans (R76). The target speed is 0 for no share, 100 with
SHORTFALL for a share above the available capacity, and otherwise the least speed that delivers the share, within 1..100
(R77). The new speed of an automatic fan moves by at most its ramp step, unless that leaves it above 0 and below the fan's
minimum speed: then it is 0 without a share and the minimum speed with one. So it is always 0 or between the minimum speed
and 100 (R78). -/
def Obligations.AllocationArithmetic : Prop :=
  (∀ share avail : Nat,
      (share = 0 → targetSpeed share avail = (0, false))
        ∧ (avail < share → targetSpeed share avail = (100, true))
        ∧ (0 < share → share ≤ avail → ∃ sp, targetSpeed share avail = (sp, false) ∧ 1 ≤ sp ∧ sp ≤ 100
            ∧ share * 100 ≤ sp * avail ∧ (sp - 1) * avail < share * 100))
    ∧ ∀ (e : FanEntry) (sp c : Nat), sp ≤ 100 → c ≤ 100 → e.minSpeed ≤ 100 →
        let t := if 0 < sp ∧ sp < e.minSpeed then e.minSpeed else sp
        let n := rampSpeed e sp c
        (n = 0 ∨ (e.minSpeed ≤ n ∧ n ≤ 100))
          ∧ (sp = 0 → t = 0) ∧ (sp = 0 → n ≤ c)
          ∧ (t ≤ c + e.rampStep → c ≤ t + e.rampStep → n = t)
          ∧ (c + e.rampStep < t → 0 < c + e.rampStep → n = max e.minSpeed (c + e.rampStep))
          ∧ (t + e.rampStep < c → e.minSpeed ≤ c - e.rampStep → n = c - e.rampStep)
          ∧ (t + e.rampStep < c → 0 < c - e.rampStep → c - e.rampStep < e.minSpeed → n = if sp = 0 then 0 else e.minSpeed)
    ∧ ∀ (s : State) (z p : Nat),
        let sum (f : Nat → Nat) : Nat :=
          ((List.range 48).map fun i => if fanAddress s i ≠ 0 ∧ (getAt s.tables.fans i).zone = z then f i else 0).sum
        let rated (i : Nat) : Nat := (getAt s.tables.fans i).ratedFlow
        let required := (p * sum rated + 99) / 100
        let manual := sum fun i =>
          if (fan s i).held = true then rated i * (fan s i).commanded.speed / 100
          else if (fan s i).service = .inService ∧ (fan s i).manualMode = true then rated i * (fan s i).manual.speed / 100
          else 0
        autoShare s z p = required - manual
          ∧ available s z = sum fun i =>
              if (fan s i).held = false ∧ (fan s i).service = .inService ∧ (fan s i).manualMode = false then rated i else 0

/-- EVALUATION sets the fans of every zone from its new target airflow: the SHORTFALL flag and the speed of the automatic
fans from the zone's automatic share and available capacity, manual fans at their manual setting, stopped fans at 0, and no
fan that is released or held by the plan (R76, R77, R78, R79). A stopped fan keeps its direction (the model's reading,
log 30). -/
def Obligations.EvaluationSetsFans : Prop :=
  ∀ s : State, s.phase = .running → Expired s s.air.evaluationTimer →
    ∃ t, exec .evaluation s = .next t ∧ (∀ z, z < 16 →
        let sp := targetSpeed (autoShare s z (getAt t.air.zones z).airflow) (available s z)
        (getAt t.air.zones z).shortfall = sp.2
          ∧ ∀ i, i < 48 → fanAddress s i ≠ 0 → (getAt s.tables.fans i).zone = z →
              let r := fan s i
              (r.held = true → fan t i = r)
                ∧ (r.held = false → r.service = .inService → r.manualMode = false →
                    (fan t i).commanded = ⟨rampSpeed (getAt s.tables.fans i) sp.1 r.commanded.speed, .forward⟩)
                ∧ (r.held = false → r.service = .inService → r.manualMode = true → (fan t i).commanded = r.manual)
                ∧ (r.held = false → r.service = .out .stop → (fan t i).commanded = ⟨0, r.commanded.direction⟩)
                ∧ (r.held = false → r.service = .out .release → fan t i = r)
                ∧ (r.held = false → r.service ≠ .out .release →
                    (t.record (.fan i)).desired = some ⟨.fan (fan t i).commanded, s.fire.latch⟩))
      ∧ (∀ i, i < 48 → (fanAddress s i = 0 ∨ 16 ≤ (getAt s.tables.fans i).zone) → fan t i = fan s i)
      ∧ ∀ i, (fan t i).manualMode = (fan s i).manualMode ∧ (fan t i).manual = (fan s i).manual
          ∧ (fan t i).service = (fan s i).service ∧ (fan t i).held = (fan s i).held

/-- MANUAL and AUTO. MANUAL is refused for a fan that does not exist, in fire mode, and for a direction that has no code, in
this order; otherwise the fan is MANUAL with the setting given, a speed above 100 taken as 100, and a fan in service is set
to it at once. AUTO only returns the fan to AUTO (R80, R81, R173). That it is set at once before the first evaluation too,
where R94 has the fan block set nothing, and that the reply is offered after the fan's frame, are the model's choices (logs
7, 38). -/
def Obligations.ManualAndAutoOrders : Prop :=
  ∀ (s : State) (r : Request) (rest : List Request) (i v d : Nat),
    (HeadRequest s r rest (.manual i v d) →
      (47 < i → exec .manual s = .next (answer r codeRange [] (withQueue rest s)))
        ∧ (i ≤ 47 → s.fire.latch = true → exec .manual s = .next (answer r codeLocked [] (withQueue rest s)))
        ∧ (i ≤ 47 → s.fire.latch = false → 1 < d →
            exec .manual s = .next (answer r codeRange [] (withQueue rest s)))
        ∧ (i ≤ 47 → s.fire.latch = false → d ≤ 1 → ∃ u : State,
            exec .manual s = .next (answer r (if 100 < v then codeClamped else codeDone) [] u)
              ∧ u = { withQueue rest s with
                  ring := u.ring, delivery := u.delivery, fans := u.fans
                  faults := { s.faults with list := u.faults.list } }
              ∧ (fan u i).manualMode = true
              ∧ (fan u i).manual = ⟨min 100 v, if d = 0 then .forward else .reverse⟩
              ∧ (fan u i).service = (fan s i).service ∧ (fan u i).held = (fan s i).held
              ∧ (∀ j, j ≠ i → fan u j = fan s j) ∧ (∀ b, b ≠ .fan i → u.record b = s.record b)
              ∧ ((fan s i).service = .inService → (fan u i).commanded = (fan u i).manual
                  ∧ (u.record (.fan i)).desired = some ⟨.fan (fan u i).manual, false⟩)
              ∧ ((fan s i).service ≠ .inService → (fan u i).commanded = (fan s i).commanded
                  ∧ u.delivery = s.delivery ∧ u.ring = s.ring ∧ u.faults = s.faults)))
      ∧ (HeadRequest s r rest (.auto i) →
          (47 < i → exec .auto s = .next (answer r codeRange [] (withQueue rest s)))
            ∧ (i ≤ 47 → exec .auto s = .next (answer r codeDone []
                { withQueue rest s with fans := setAt s.fans i { fan s i with manualMode := false } })))

/-- FAN_DEGLITCH_EXPIRY, LAMP_TIMER_EXPIRY and RING_SILENCE_EXPIRY: the timer stops and its condition is present, handed to
the fault block for the node the entry names, or for the part's own address. FRAME_RECEIVED, a fan drive's report: it is
stored; the stall, no-load and overspeed tests are made against the last taken speed, for a fan in service with a commanded
speed above 0, each by its deglitch timer, and otherwise their timers stop; the drive-trip test is made always; and the
changes are handed to the fault block. A new trip may take the fan out of service, which ends the three conditions (R17,
R31, R85 to R91, R125). That a last taken speed of 0 is a reference speed too is the model's choice (log 39). -/
def Obligations.DeglitchedConditionsAppear : Prop :=
  (∀ (bytes : List Byte) (framingError : Bool) (f : Frame) (i : Nat) (x : DriveReport) (s : State),
      PassingReport s bytes framingError f .fan i → NodeMapExact s → parseDrive f.payload = some x →
      let e := getAt s.tables.fans i
      let r := fan s i
      let ref : Option Nat := match (s.record (.fan i)).lastTaken with | some (.fan y) => some y.speed | _ => none
      let tested := r.service = .inService ∧ 0 < r.commanded.speed
      let holds (k : FanTest) (v : Nat) : Bool := match k with
        | .stall => decide (20 ≤ v ∧ x.speed * 100 < v * e.stallRatio)
        | .noLoad => decide (x.current < e.noLoadCurrent)
        | .overspeed => decide (v + e.overMargin < x.speed)
      let time (k : FanTest) : Nat := match k with
        | .stall => e.stallTime | .noLoad => e.noLoadTime | .overspeed => e.overTime
      let class' (k : FanTest) : FaultClass := match k with
        | .stall => .fanStall | .noLoad => .fanNoLoad | .overspeed => .fanOverspeed
      let trips := x.status = .tripped ∧ r.trip = false
      ∃ t, exec (.frameReceived bytes framingError) s = .next t
        ∧ (let n := fan t i
           n = { r with
             reported := some x, trip := decide (x.status = .tripped), commanded := n.commanded, service := n.service
             stall := n.stall, noLoad := n.noLoad, overspeed := n.overspeed })
        ∧ (¬ trips → (fan t i).service = r.service)
        ∧ ((fan t i).service = r.service → (fan t i).commanded = r.commanded ∧ ∀ k : FanTest,
            (∀ v, tested → ref = some v → ((fan t i).test k) = afterTest s.clock (time k) (holds k v) (r.test k))
              ∧ (¬ tested ∨ ref = none → ((fan t i).test k) = { r.test k with timer := none }))
        ∧ (r.service = .inService → (fan t i).service ≠ .inService → ∀ k : FanTest, (fan t i).test k = ⟨none, false⟩)
        ∧ (∀ (k : FanTest) (v : Nat), tested → ref = some v → (r.test k).present = true → holds k v = false →
            EndHandedOn (class' k) f.source t)
        ∧ (trips → PresenceHandedOn .fanDriveTrip f.source s t)
        ∧ (x.status ≠ .tripped → r.trip = true → EndHandedOn .fanDriveTrip f.source t)
        ∧ (∀ j, j ≠ i → fan t j = fan s j) ∧ t.air = s.air ∧ t.light = s.light)
    ∧ ∀ (s : State) (i : Nat),
    (∀ k : FanTest, s.phase = .running → i < 48 → Expired s ((fan s i).test k).timer →
        exec (.fanDeglitchExpiry i k) s = .next
          (presence (match k with | .stall => .fanStall | .noLoad => .fanNoLoad | .overspeed => .fanOverspeed)
            (fanAddress s i)
            (let record : FanRecord := match k with
              | .stall => { fan s i with stall := ⟨none, true⟩ }
              | .noLoad => { fan s i with noLoad := ⟨none, true⟩ }
              | .overspeed => { fan s i with overspeed := ⟨none, true⟩ }
             { s with fans := setAt s.fans i record })))
      ∧ (s.phase = .running → i < 96 → Expired s (group s i).lamp.timer →
          exec (.lampTimerExpiry i) s = .next (presence .lampOpen (groupEntry s i).addr
            { s with light := { s.light with
                groups := setAt s.light.groups i { group s i with lamp := ⟨none, true⟩ } } }))
      ∧ (s.phase ≠ .held → Expired s s.ring.silenceTimer →
          exec .ringSilenceExpiry s = .next (presence .ringSilent s.ring.ownAddress
            { s with ring := { s.ring with silenceTimer := none, ringSilent := true } }))

/-! ## The guidance block (chapter 6) -/

/-- FRAME_RECEIVED, a bay cluster's report: each slot acts on its bay by the bay's state, what settles at once has the
effects below, and BAY_SENSOR_FAULT follows the last reported states of the cluster's range. BAY_SETTLE_EXPIRY: the bay
takes its pending state; every free count counts the bays that are FREE and not held; a change from FREE to TAKEN takes the
oldest entry from the arrival list of the row's level; a change between FREE and TAKEN adds the bay increment to the traffic
load of the row's zone and is presence for the groups that list the row; and the signs are up to date (R28, R99 to R104,
R107, R112). That all signs are computed at the end of the event is the model's reading (log 8). -/
def Obligations.BaySettles : Prop :=
  (∀ (bytes : List Byte) (framingError : Bool) (f : Frame) (i : Nat) (slots : List SlotState) (s : State),
      PassingReport s bytes framingError f .bay i → NodeMapExact s → FreeCountsExact s →
      parseCluster f.payload = some slots →
      let e := getAt s.tables.clusters i
      let settle := s.tables.control.baySettle
      let rowOf (b : Nat) : Nat := (getAt s.tables.bays b).row
      ∃ t, exec (.frameReceived bytes framingError) s = .next t
        ∧ t = { s with
            ring := t.ring, nodes := t.nodes, delivery := t.delivery, air := { s.air with zones := t.air.zones }
            guide := t.guide, light := { s.light with groups := t.light.groups }, faults := t.faults }
        ∧ (∀ k b x, b = e.first + k → k < e.count → b < 2048 → slots[k]? = some x →
            let r := { bay s b with lastReported := some x }
            let settled : BayRecord := ⟨some x, none, none, some x⟩
            bay t b =
              if r.state = none ∨ r.state = some x then settled
              else if r.pending = some x then r
              else if settle = 0 then settled
              else { r with pending := some x, timer := some (s.clock + settle * second) })
        ∧ (∀ b, b < 2048 → ¬ (e.first ≤ b ∧ b < e.first + min e.count slots.length) → bay t b = bay s b)
        ∧ (let now := decide (∃ b ∈ clusterRange e, (bay t b).lastReported = some .fault)
           let was := getAt s.guide.clusterFault i
           t.guide.clusterFault = setAt s.guide.clusterFault i now
             ∧ (now = true → was = false → PresenceHandedOn .baySensorFault f.source s t)
             ∧ (now = false → was = true → EndHandedOn .baySensorFault f.source t))
        ∧ FreeCountsExact t ∧ SignsCurrent t
        ∧ (let moves (p : Nat → Bool) : Nat :=
             (List.range 2048).countP fun b => p b && vehicleMoved (bay s b).state (bay t b).state
           (∀ l, l < 8 →
              getAt t.guide.levels l = { getAt s.guide.levels l with
                free := (getAt t.guide.levels l).free
                arrivals := (getAt s.guide.levels l).arrivals.drop
                  (moves fun b => decide ((bay t b).state = some .taken) && decide (rowLevel s (rowOf b) = l)) })
            ∧ (∀ z, z < 16 →
              let n := moves fun b => decide ((getAt s.tables.rows (rowOf b)).zone = z)
              getAt t.air.zones z = { getAt s.air.zones z with
                load := if n = 0 then (getAt s.air.zones z).load
                  else min 4095 ((getAt s.air.zones z).load + n * s.tables.control.bayIncrement) })
            ∧ ∀ j, j < 96 → group t j =
                if moves (fun b => decide (.row (rowOf b) ∈ (groupEntry s j).triggers)) = 0 then group s j
                else afterPresence s.clock (groupEntry s j) (group s j)))
    ∧ ∀ (s : State) (b : Nat), s.phase = .running → b < 2048 → Expired s (bay s b).timer →
      ∀ x, (bay s b).pending = some x →
        let row := (getAt s.tables.bays b).row
        let parked := (bay s b).state = some .free ∧ x = .taken
        let vehicle := parked ∨ ((bay s b).state = some .taken ∧ x = .free)
        ∃ t, exec (.baySettleExpiry b) s = .next t
          ∧ t = { s with ring := t.ring, delivery := t.delivery, air := t.air, guide := t.guide, light := t.light }
          ∧ t.guide.bays = setAt s.guide.bays b { bay s b with state := some x, pending := none, timer := none }
          ∧ (∀ r, r < 64 → getAt t.guide.rowFree r = countRow s.tables t.guide.bays r)
          ∧ (∀ l, l < 8 →
              (getAt t.guide.levels l).free = countLevel s.tables t.guide.rowFree l
                ∧ (getAt t.guide.levels l).reasons = (getAt s.guide.levels l).reasons
                ∧ (parked ∧ l = rowLevel s row → (getAt t.guide.levels l).arrivals = (getAt s.guide.levels l).arrivals.tail)
                ∧ (¬ (parked ∧ l = rowLevel s row) →
                    (getAt t.guide.levels l).arrivals = (getAt s.guide.levels l).arrivals))
          ∧ t.air = { s.air with zones := t.air.zones }
          ∧ (∀ z, z < 16 → getAt t.air.zones z = { getAt s.air.zones z with load := (getAt t.air.zones z).load }
              ∧ (vehicle ∧ z = (getAt s.tables.rows row).zone →
                  (getAt t.air.zones z).load = min 4095 ((getAt s.air.zones z).load + s.tables.control.bayIncrement))
              ∧ (¬ (vehicle ∧ z = (getAt s.tables.rows row).zone) →
                  (getAt t.air.zones z).load = (getAt s.air.zones z).load))
          ∧ (∀ i, i < 96 →
              (vehicle ∧ .row row ∈ (groupEntry s i).triggers →
                group t i = { group s i with
                  holdTimer := some (s.clock + (groupEntry s i).holdTime * second)
                  state := if (group s i).state = .forced then .forced else .hold
                  target := if (group s i).state = .forced then (group s i).target else (groupEntry s i).full })
                ∧ (¬ (vehicle ∧ .row row ∈ (groupEntry s i).triggers) → group t i = group s i))
          ∧ SignsCurrent t

/-- FRAME_RECEIVED, a lane counter's report: the counts become the baseline, and the pulses since the one before, each
direction modulo 256 and up to the jump limit, append arrivals to the IN level's list, whose oldest entries make room and
are counted as dropped, and then take the oldest from a pass-through lane's OUT level; they add to the traffic load of the
lane's zone and are presence for the groups that list the lane. TRANSIT_TIMEOUT: the entries at the head of the level's
arrival list that have reached its transit timeout leave and are counted as aged, and the signs are up to date; nothing else
of the level, and no other level, changes (R29, R30, R61, R105 to R107, R112, R121). Ages are in whole tenths of a second
(the model's choice, log 9), and all signs are computed at the end of the event (the model's reading, log 8). -/
def Obligations.ArrivalsAgeOut : Prop :=
  (∀ (bytes : List Byte) (framingError : Bool) (f : Frame) (i a b : Nat) (s : State),
      PassingReport s bytes framingError f .lane i → WithinCapacities s → parseLane f.payload = some (a, b) →
      let e := getAt s.tables.lanes i
      let since (count base : Nat) : Nat := min ((count + 256 - base) % 256) e.jumpLimit
      let pq : Nat × Nat := match (node s f.source).liveness, (node s f.source).baseline with
        | .live, .lane c d => (since a c, since b d)
        | _, _ => (0, 0)
      ∃ t, exec (.frameReceived bytes framingError) s = .next t
        ∧ t = { s with
            ring := t.ring, nodes := t.nodes, delivery := t.delivery, air := { s.air with zones := t.air.zones }
            guide := { s.guide with levels := t.guide.levels, signs := t.guide.signs }
            light := { s.light with groups := t.light.groups }, faults := { s.faults with list := t.faults.list } }
        ∧ (node t f.source).baseline = .lane a b
        ∧ (∀ l, l < 8 →
            let r := getAt s.guide.levels l
            let n := getAt t.guide.levels l
            let all := r.arrivals ++ List.replicate (if e.inLevel = some l then pq.1 else 0) ⟨tenthsSinceStart s, e.addr⟩
            n = { r with arrivals := n.arrivals, dropped := n.dropped }
              ∧ n.arrivals = (all.drop (all.length - 32)).drop
                  (if e.passThrough = true ∧ e.outLevel = some l then pq.2 else 0)
              ∧ (r.dropped ≤ 65535 → n.dropped = min 65535 (r.dropped + (all.length - 32))))
        ∧ (∀ z, z < 16 → getAt t.air.zones z = { getAt s.air.zones z with
            load := if z = e.zone ∧ 0 < pq.1 + pq.2
              then min 4095 ((getAt s.air.zones z).load + (pq.1 + pq.2) * e.increment) else (getAt s.air.zones z).load })
        ∧ (∀ j, j < 96 → group t j =
            if .lane i ∈ (groupEntry s j).triggers ∧ 0 < pq.1 + pq.2
            then afterPresence s.clock (groupEntry s j) (group s j) else group s j)
        ∧ SignsCurrent t)
    ∧ ∀ (s : State) (l : Nat) (x : Arrival) (xs : List Arrival), s.phase = .running → l < 8 →
    (getAt s.guide.levels l).arrivals = x :: xs →
    (getAt s.tables.levels l).transit * 10 ≤ tenthsSinceStart s - x.time →
    ∃ t, exec (.transitTimeout l) s = .next t
      ∧ t = { s with ring := t.ring, delivery := t.delivery, guide := { s.guide with levels := t.guide.levels, signs := t.guide.signs } }
      ∧ (∀ m, m ≠ l → getAt t.guide.levels m = getAt s.guide.levels m)
      ∧ getAt t.guide.levels l = { getAt s.guide.levels l with
          arrivals := (getAt t.guide.levels l).arrivals, aged := (getAt t.guide.levels l).aged }
      ∧ (getAt t.guide.levels l).arrivals = (getAt s.guide.levels l).arrivals.dropWhile
          (fun y => decide ((getAt s.tables.levels l).transit * 10 ≤ tenthsSinceStart s - y.time))
      ∧ ((getAt s.guide.levels l).aged ≤ 65535 →
          (getAt t.guide.levels l).aged = min 65535 ((getAt s.guide.levels l).aged
            + ((getAt s.guide.levels l).arrivals.length - (getAt t.guide.levels l).arrivals.length)))
      ∧ SignsCurrent t

/-- What a sign shows, and SIGN_INTERVAL_EXPIRY. A sign shows EXIT with its fire arrow in fire mode, CLOSED when all its
sources are closed, FULL with the arrow for it at or below its full threshold, and otherwise its value with the open arrow:
the sum of its sources' effective free less the holdback, at most 999, to which a closed source adds nothing (R108, R111).
SIGN_INTERVAL_EXPIRY is taken of every sign whose timer has run out. When its interval runs out, a pending setting is sent
if it still differs from the last sent one and the sign is in service or fire mode is active; the interval then restarts
(R113, R115). -/
def Obligations.SignsShowAndWait : Prop :=
  (∀ (s : State) (e : SignEntry),
      (s.fire.latch = true → signSetting s e = ⟨.exit, e.arrowFire⟩)
        ∧ (s.fire.latch = false → (∀ x ∈ e.sources, sourceClosed s x = true) → signSetting s e = ⟨.closed, .none⟩)
        ∧ (s.fire.latch = false → (∃ x ∈ e.sources, sourceClosed s x = false) →
            let value := min 999 (((e.sources.filter fun x => !sourceClosed s x).map (effectiveFree s)).sum - e.holdback)
            (value ≤ e.fullThreshold → signSetting s e = ⟨.full, e.arrowFull⟩)
              ∧ (e.fullThreshold < value → signSetting s e = ⟨.number value, e.arrowOpen⟩))
        ∧ (∀ x, sourceClosed s x = levelClosed s (match x with | .row r => rowLevel s r | .level l => l))
        ∧ (∀ r, effectiveFree s (.row r) = if levelClosed s (rowLevel s r) then 0 else getAt s.guide.rowFree r)
        ∧ (∀ l, effectiveFree s (.level l) = if levelClosed s l then 0
            else (getAt s.guide.levels l).free - (getAt s.guide.levels l).arrivals.length)
        ∧ (∀ v a, signSetting s e = ⟨.number v, a⟩ → e.fullThreshold < v ∧ v ≤ 999 ∧ a = e.arrowOpen
            ∧ v = min 999 (((e.sources.filter fun x => !sourceClosed s x).map (effectiveFree s)).sum - e.holdback)))
    ∧ ∀ (s : State) (i : Nat), s.phase = .running → i < 48 → Expired s (getAt s.guide.signs i).timer →
        let r := getAt s.guide.signs i
        let put (q : SignRecord) : State := { s with guide := { s.guide with signs := setAt s.guide.signs i q } }
        (r.pending = false → exec (.signIntervalExpiry i) s = .next (put { r with timer := none }))
          ∧ (r.pending = true → r.lastSent = some r.computed →
              exec (.signIntervalExpiry i) s = .next (put { r with timer := none, pending := false }))
          ∧ (r.pending = true → r.lastSent ≠ some r.computed → r.out = true → s.fire.latch = false →
              exec (.signIntervalExpiry i) s = .next (put { r with timer := none }))
          ∧ (r.pending = true → r.lastSent ≠ some r.computed → (r.out = false ∨ s.fire.latch = true) →
              exec (.signIntervalExpiry i) s = .next (setDesired (.sign i) (.sign r.computed)
                (put { r with
                  lastSent := some r.computed, pending := false
                  timer := some (s.clock + s.tables.control.signInterval * tenth) })))

/-- CLOSE LEVEL adds OPERATOR to the reasons of its level and OPEN LEVEL removes it; no other reason and no other level
changes, and the signs are up to date. A level above 7 is refused (R108, R112, R173). That all signs are computed at the end
of the event is the model's reading (log 8). That the reply is offered after the frames of its effects is the model's choice
(log 7). -/
def Obligations.OperatorOrdersLevels : Prop :=
  ∀ (s : State) (r : Request) (rest : List Request) (l : Nat) (on : Bool),
    HeadRequest s r rest (if on then .closeLevel l else .openLevel l) →
    (7 < l → exec (if on then .closeLevel else .openLevel) s = .next (answer r codeRange [] (withQueue rest s)))
      ∧ (l ≤ 7 → ∃ u : State,
          exec (if on then .closeLevel else .openLevel) s = .next (answer r codeDone [] u)
            ∧ u = { withQueue rest s with
                ring := u.ring, delivery := u.delivery
                guide := { s.guide with levels := u.guide.levels, signs := u.guide.signs } }
            ∧ u.guide.levels = setAt s.guide.levels l { getAt s.guide.levels l with
                reasons := { (getAt s.guide.levels l).reasons with operator := on } }
            ∧ SignsCurrent u)

/-- HOLD BAYS sets the held mark of the bays it names, stopping at bay 2047, and answers with how many it set; the marks of
the other bays and the states of all bays stay, and counts and signs follow. A first bay above 2047 or a mark that is
neither yes nor no is refused with nothing changed. The premises are invariants of the part (R104, R112, R174). The two
bytes of the number are the model's reading (log 29). That the reply is offered after the frames of its effects is the
model's choice (log 7). -/
def Obligations.HoldBaysMarks : Prop :=
  ∀ (s : State) (r : Request) (rest : List Request) (first count held : Nat),
    HeadRequest s r rest (.holdBays first count held) →
    (2047 < first ∨ 1 < held → exec .holdBays s = .next (answer r codeRange [] (withQueue rest s)))
      ∧ (first ≤ 2047 → held ≤ 1 → FreeCountsExact s → SignsCurrent s →
          let n := min count (2048 - first)
          ∃ u : State,
            exec .holdBays s = .next (answer r (if n < count then codeRange else codeDone) (b16 n) u)
              ∧ u = { withQueue rest s with
                  ring := u.ring, delivery := u.delivery, guide := u.guide
                  tables := { s.tables with bays := u.tables.bays } }
              ∧ u.guide.bays = s.guide.bays
              ∧ (∀ b, b < 2048 → getAt u.tables.bays b =
                  if first ≤ b ∧ b < first + n then { getAt s.tables.bays b with held := decide (held = 1) }
                  else getAt s.tables.bays b)
              ∧ FreeCountsExact u ∧ SignsCurrent u)

/-! ## The lighting block (chapter 7) -/

/-- LIGHT_STEP works every group: the target is that of its state; an unknown output becomes the target, a FORCED group's
output the full level, and any other output moves to the target by at most the fade step; an output that was unknown or has
changed is set on the delivery record; and the timer restarts at 1 s. HOLD_TIMER_EXPIRY stops the hold timer: HOLD goes to
BASE with its target at the base level, and FORCED stays FORCED. FRAME_RECEIVED, a luminaire driver's report: its motion
count is the new baseline, its reported values are stored, and a group in service is tested for LAMP_OPEN and takes the
motion since the last count as traffic for its zone and, with OWN_MOTION, as presence (R32, R33, R120, R123, R124, R125). -/
def Obligations.LightTimersExpire : Prop :=
  (∀ (bytes : List Byte) (framingError : Bool) (f : Frame) (i m : Nat) (x : LampReport) (s : State),
      PassingReport s bytes framingError f .luminaire i → i < 96 → parseLuminaire f.payload = some (x, m) →
      let e := groupEntry s i
      let r := group s i
      let n := match (node s f.source).liveness, (node s f.source).baseline with
        | .live, .motion b => (m + 256 - b) % 256
        | _, _ => 0
      let moved := 0 < n ∧ r.out = false
      let holds := decide (0 < x.output ∧ x.current < e.lampThreshold)
      let seen := { r with
        reported := some x, lamp := if r.out = true then r.lamp else afterTest s.clock e.lampTime holds r.lamp }
      ∃ t, exec (.frameReceived bytes framingError) s = .next t
        ∧ t = { s with
            ring := t.ring, nodes := t.nodes, delivery := t.delivery, air := { s.air with zones := t.air.zones }
            guide := { s.guide with signs := t.guide.signs }, light := { s.light with groups := t.light.groups }
            faults := { s.faults with list := t.faults.list } }
        ∧ (node t f.source).baseline = .motion m
        ∧ group t i = (if moved ∧ .ownMotion ∈ e.triggers then afterPresence s.clock e seen else seen)
        ∧ (∀ j, j ≠ i → group t j = group s j)
        ∧ (∀ z, z < 16 → getAt t.air.zones z = { getAt s.air.zones z with
            load := if z = e.zone ∧ moved then min 4095 ((getAt s.air.zones z).load + n * e.motionIncrement)
              else (getAt s.air.zones z).load })
        ∧ (r.out = false → r.lamp.present = true → holds = false → EndHandedOn .lampOpen e.addr t))
    ∧ (∀ s : State, s.phase = .running → Expired s s.light.stepTimer →
    ∃ t, exec .lightStep s = .next t
      ∧ t = { s with
          ring := { s.ring with
            insertion := t.ring.insertion, claims := t.ring.claims, nextEntry := t.ring.nextEntry }
          delivery := t.delivery, light := t.light }
      ∧ t.light.stepTimer = some (s.clock + second)
      ∧ (∀ i, t.record (.fan i) = s.record (.fan i) ∧ t.record (.sign i) = s.record (.sign i))
      ∧ ∀ i, i < 96 → ∃ o,
          let e := groupEntry s i
          let r := group s i
          let target := match r.state with | .base => e.base | .hold => e.full | .forced => e.full
          group t i = { r with target := target, output := some o }
            ∧ (r.output = none → o = target)
            ∧ (∀ p, r.output = some p → r.state = .forced → o = e.full)
            ∧ (∀ p, r.output = some p → r.state ≠ .forced → p ≤ target + e.fadeStep → target ≤ p + e.fadeStep → o = target)
            ∧ (∀ p, r.output = some p → r.state ≠ .forced → p + e.fadeStep < target → o = p + e.fadeStep)
            ∧ (∀ p, r.output = some p → r.state ≠ .forced → target + e.fadeStep < p → o = p - e.fadeStep)
            ∧ (r.output ≠ some o → (t.record (.group i)).desired = some ⟨.luminaire o, s.fire.latch⟩)
            ∧ (r.output = some o → t.record (.group i) = s.record (.group i)))
    ∧ ∀ (s : State) (i : Nat), s.phase = .running → i < 96 → Expired s (group s i).holdTimer →
    let r := { group s i with holdTimer := none }
    let put (q : GroupRecord) : State := { s with light := { s.light with groups := setAt s.light.groups i q } }
    ((group s i).state = .forced → exec (.holdTimerExpiry i) s = .next (put r))
      ∧ ((group s i).state ≠ .forced →
          exec (.holdTimerExpiry i) s = .next (put { r with state := .base, target := (groupEntry s i).base }))

/-! ## Nodes and faults (chapters 2 and 8) -/

/-- NODE_SILENCE_EXPIRY: the node is SILENT, its timer stops, its baseline is absent and its equipment and sensor fault
stay; the bays of a silent cluster become UNKNOWN with nothing pending, the deglitch timers of a silent fan drive and the
lamp timer of a silent luminaire driver stop; NODE_SILENT is handed on as present; and the free counts and the signs are up
to date (R25, R35, R36, R92, R102, R112, R127). That all signs are computed at the end of the event is the model's reading
(log 8). -/
def Obligations.NodeFallsSilent : Prop :=
  ∀ (s : State) (a : Nat), s.phase = .running → 1 ≤ a → a ≤ 223 → Expired s (node s a).silenceTimer → FreeCountsExact s →
    ∃ t, exec (.nodeSilenceExpiry a) s = .next t
      ∧ t = { s with
          ring := t.ring, nodes := t.nodes, delivery := t.delivery, fans := t.fans, guide := t.guide, light := t.light
          faults := t.faults, mgmt := t.mgmt }
      ∧ t.nodes = setAt s.nodes a { node s a with liveness := .silent, silenceTimer := none, baseline := .absent }
      ∧ PresenceHandedOn .nodeSilent a s t
      ∧ (∀ i, (node s a).equipment = some (.bay, i) →
          ∀ b, b < 2048 →
            (b ∈ clusterRange (getAt s.tables.clusters i) →
                (bay t b).state = none ∧ (bay t b).pending = none ∧ (bay t b).timer = none
                  ∧ (bay t b).lastReported = (bay s b).lastReported)
              ∧ (b ∉ clusterRange (getAt s.tables.clusters i) → bay t b = bay s b))
      ∧ (∀ i, (node s a).equipment = some (.fan, i) → i < 48 →
          (fan t i).stall.timer = none ∧ (fan t i).noLoad.timer = none ∧ (fan t i).overspeed.timer = none
            ∧ (fan t i).reported = (fan s i).reported)
      ∧ (∀ i, (node s a).equipment = some (.luminaire, i) → i < 96 → (group t i).lamp.timer = none
          ∧ (group t i).reported = (group s i).reported)
      ∧ FreeCountsExact t ∧ SignsCurrent t

/-- A presence handed to the fault block. By the mode of its class, with LATCH and RETRY taken as REPORT for the three fan
test classes in fire mode, it creates a record at the end of the list, in place of the oldest ENDED or else the oldest
ACTIVE record of a full list, or none when all are OUT or LATCHED; or it moves the pair's record on by the table of R136 and
to the end of the list; and the flag of its category is set. The service state of the address is judged last. The class
codes and categories are those of 8.1, and the flag codes those of 8.8 (R132, R135, R136, R139, R140, R142, R143). The order
of flag and judgement, and an ACTIVE record left as it is, are the model's (logs 7, 33). -/
def Obligations.PresenceIsRecorded : Prop :=
  (∀ c : FaultClass, (classCode c, categoryFlag c) = match c with
      | .fanStall => (0, .fan) | .fanNoLoad => (1, .fan) | .fanOverspeed => (2, .fan) | .fanDriveTrip => (3, .fan)
      | .gasSensorFault => (4, .sensor) | .baySensorFault => (5, .sensor) | .lampOpen => (6, .lamp)
      | .nodeSilent => (7, .node) | .actuatorNoTake => (8, .node) | .ringSilent => (9, .ring))
    ∧ (∀ f : Flag, flagCode f = match f with
      | .fire => 0 | .gasHigh => 1 | .shortfall => 2 | .fan => 3 | .sensor => 4
      | .lamp => 5 | .node => 6 | .ring => 7 | .store => 8 | .listFull => 9)
    ∧ ∀ (c : FaultClass) (addr : Nat) (s : State),
    let e := getAt s.tables.responses (classCode c)
    let m := if s.fire.latch = true ∧ (c = .fanStall ∨ c = .fanNoLoad ∨ c = .fanOverspeed)
        ∧ (e.mode = .latch ∨ e.mode = .retry) then .report else e.mode
    let wait := some (s.clock + e.interval * second)
    let new : FaultRecord :=
      { cls := c, addr := addr, state := match m with | .latch => .latched | .retry => .out | _ => .active
        present := true, retries := if m = .retry then 1 else 0, occurrences := 1
        firstTime := faultClock s, lastTime := faultClock s, timer := if m = .retry then wait else none
        overridden := false }
    ∃ u, presence c addr s = judgeAddress addr u
      ∧ u = { s with ring := u.ring, faults := u.faults }
      ∧ (m = .ignore → u = s)
      ∧ (m ≠ .ignore → findRecord s c addr = none →
          flagSet u (categoryFlag c) = true
            ∧ (s.faults.list.length < 64 → u.faults.list = s.faults.list ++ [new])
            ∧ (∀ l₁ r l₂, 64 ≤ s.faults.list.length → s.faults.list = l₁ ++ r :: l₂ → r.state = .ended →
                (∀ x ∈ l₁, x.state ≠ .ended) → u.faults.list = l₁ ++ l₂ ++ [new])
            ∧ (∀ l₁ r l₂, 64 ≤ s.faults.list.length → s.faults.list = l₁ ++ r :: l₂ → r.state = .active →
                (∀ x ∈ l₁, x.state ≠ .active) → (∀ x ∈ s.faults.list, x.state ≠ .ended) →
                u.faults.list = l₁ ++ l₂ ++ [new])
            ∧ (64 ≤ s.faults.list.length → (∀ x ∈ s.faults.list, x.state = .out ∨ x.state = .latched) →
                u.faults.list = s.faults.list ∧ flagSet u .listFull = true))
      ∧ (∀ r, m ≠ .ignore → findRecord s c addr = some r →
          (r.state = .active → u = s)
            ∧ (r.state ≠ .active → flagSet u (categoryFlag c) = true ∧ ∃ r' : FaultRecord,
                u.faults.list = (s.faults.list.filter fun x => !x.isOf c addr) ++ [r']
                  ∧ r' = { r with
                      occurrences := min 255 (r.occurrences + 1), lastTime := faultClock s, present := true
                      state := r'.state, retries := r'.retries, timer := r'.timer }
                  ∧ (r.state = .latched → r'.state = .latched ∧ r'.retries = r.retries ∧ r'.timer = r.timer)
                  ∧ (r.state ≠ .latched → m = .report → r'.retries = r.retries ∧ r'.timer = r.timer
                      ∧ r'.state = if r.state = .ended then .active else .out)
                  ∧ (r.state ≠ .latched → (m = .latch ∨ (m = .retry ∧ e.limit ≤ r.retries)) →
                      r'.state = .latched ∧ r'.retries = r.retries ∧ r'.timer = none)
                  ∧ (r.state ≠ .latched → m = .retry → r.retries < e.limit →
                      r'.state = .out ∧ r'.retries = r.retries + 1 ∧ r'.timer = wait)))

/-- RETRY_TIMER_EXPIRY: the timer stops, the record ends and loses any OVERRIDDEN mark; a condition that still stands counts
at once as a new presence; and the service state is judged once, after both. The service state: an address is out while a
record of it is OUT or LATCHED and not OVERRIDDEN, with STOP if any such record's class has it and RELEASE otherwise. A
change of it: a fan that goes out loses its three tested conditions; not under the plan, it is stopped or released, or takes
its manual setting when it comes back MANUAL; a group that goes out loses LAMP_OPEN; a sign that goes out outside fire mode
withdraws its setting, and one that comes back is sent at once. No other equipment follows (R82, R83, R91, R115, R126, R128,
R138, R140, R142, R154). That a stop or a release keeps the direction, where R75 gives 0 FORWARD, and what a fan under
the plan does, are the model's readings (logs 30, 37); that a stop is set before the first evaluation too is its choice (log
38). -/
def Obligations.RetryTimerEndsRecord : Prop :=
  (∀ (s : State) (a : Nat),
      let out (r : FaultRecord) : Prop :=
        r ∈ s.faults.list ∧ r.addr = a ∧ (r.state = .out ∨ r.state = .latched) ∧ r.overridden = false
      let stops (r : FaultRecord) : Prop := (getAt s.tables.responses (classCode r.cls)).action = .stop
      (serviceOf s a = .inService ↔ a = 0 ∨ ∀ r, ¬ out r)
        ∧ (serviceOf s a = .out .stop ↔ a ≠ 0 ∧ ∃ r, out r ∧ stops r)
        ∧ (serviceOf s a = .out .release ↔ a ≠ 0 ∧ (∃ r, out r) ∧ ∀ r, out r → ¬ stops r))
    ∧ (∀ (s : State) (a i : Nat), i < 48 → (node s a).equipment = some (.fan, i) →
        let new := serviceOf s (fanAddress s i)
        let u := judgeAddress a s
        let r := fan s i
        let n := fan u i
        let under := r.held = true ∨ (s.fire.latch = true ∧ (getAt s.fire.plan i).action ≠ .leave)
        let desired := (u.record (.fan i)).desired
        (r.service = new → u = s)
          ∧ (r.service ≠ new →
              n = { r with
                service := new, commanded := n.commanded, stall := n.stall, noLoad := n.noLoad, overspeed := n.overspeed }
              ∧ (∀ j, j ≠ i → fan u j = fan s j)
              ∧ (r.service = .inService → ∀ k : FanTest, n.test k = ⟨none, false⟩
                  ∧ ((r.test k).present = true → EndHandedOn (match k with
                      | .stall => .fanStall | .noLoad => .fanNoLoad | .overspeed => .fanOverspeed) (fanAddress s i) u))
              ∧ (under ∨ (new = .inService ∧ r.manualMode = false) →
                  n.commanded = r.commanded ∧ u.delivery = s.delivery ∧ u.ring = s.ring)
              ∧ (¬ under → new = .out .stop →
                  n.commanded = ⟨0, r.commanded.direction⟩ ∧ desired = some ⟨.fan n.commanded, s.fire.latch⟩)
              ∧ (¬ under → new = .out .release → n.commanded = ⟨0, r.commanded.direction⟩ ∧ desired = none)
              ∧ (¬ under → new = .inService → r.manualMode = true →
                  n.commanded = r.manual ∧ desired = some ⟨.fan r.manual, s.fire.latch⟩)))
    ∧ (∀ (s : State) (a i : Nat), i < 96 → (node s a).equipment = some (.luminaire, i) →
        let out := decide (serviceOf s (groupEntry s i).addr ≠ .inService)
        let u := judgeAddress a s
        let r := group s i
        let n := { r with out := out, lamp := if out = true then ⟨none, false⟩ else r.lamp }
        ((r.out = out → u = s)
          ∧ (r.out ≠ out →
              u = { s with
                light := { s.light with groups := setAt s.light.groups i n }
                faults := { s.faults with list := u.faults.list } }
              ∧ (out = false ∨ r.lamp.present = false → u.faults = s.faults)
              ∧ (out = true → r.lamp.present = true → EndHandedOn .lampOpen (groupEntry s i).addr u))))
    ∧ (∀ (s : State) (a i : Nat), i < 48 → (node s a).equipment = some (.sign, i) →
        let out := decide (serviceOf s (getAt s.tables.signs i).addr ≠ .inService)
        let u := judgeAddress a s
        let r := getAt s.guide.signs i
        let x := signSetting s (getAt s.tables.signs i)
        let t : State := { s with guide := { s.guide with signs := setAt s.guide.signs i { r with out := out } } }
        (r.out = out → u = s)
          ∧ (r.out ≠ out → out = true → u = if s.fire.latch = true then t else withdraw (.sign i) t)
          ∧ (r.out ≠ out → out = false →
              let n : SignRecord := ⟨x, some x, some (s.clock + s.tables.control.signInterval * tenth), false, false⟩
              u = setDesired (.sign i) (.sign x)
                { s with guide := { s.guide with signs := setAt s.guide.signs i n } }))
    ∧ (∀ (s : State) (a i : Nat) (k : NodeKind), k = .gas ∨ k = .bay ∨ k = .lane →
        ((node s a).equipment = some (k, i) ∨ (node s a).equipment = none) → judgeAddress a s = s)
    ∧ ∀ (c : FaultClass) (addr : Nat) (r : FaultRecord) (s : State), s.phase = .running →
    findRecord s c addr = some r → Expired s r.timer →
    let t := { s with faults := { s.faults with list := s.faults.list.map fun x =>
      if x.cls = c ∧ x.addr = addr then { x with state := .ended, timer := none, overridden := false } else x } }
    (r.present = true → exec (.retryTimerExpiry c addr) s = .next (presence c addr t))
      ∧ (r.present = false → exec (.retryTimerExpiry c addr) s = .next (judgeAddress addr t))

/-- ACK: a named flag stays set exactly when its standing cause stands, every other flag stays as it is, the ALERT line is
judged, no notice is queued, and the ten flags are returned. No flag, more than ten, or a flag that does not exist is
refused. Setting a flag that is set is no rise. A rise judges ALERT; an enabled one joins the risen set, and is built into a
new URGENT notice to the panel, which is queued or claims room, unless a notice is pending already, which it then joins. A
notice carries the risen flags and the flags then set and enabled, each code once (R12, R143, R144, R145, R146, R172). The
ten flags travel as ten bytes (the model's reading, log 29), and the codes of a notice in rising order (the model's choice,
log 40). -/
def Obligations.AckClearsFlags : Prop :=
  (∀ (s : State) (f : Flag),
      let k := flagCode f
      let enabled := getAt s.tables.control.enables k = true
      let on : State := { s with faults := { s.faults with flags := setAt s.faults.flags k true, alert := true } }
      let risen : State := { on with faults := { on.faults with risen := setAt s.faults.risen k true } }
      (flagSet s f = true → raiseFlag f s = s)
        ∧ (flagSet s f = false → ¬ enabled →
            raiseFlag f s = { on with faults := { on.faults with alert := anyEnabledFlag on } })
        ∧ (flagSet s f = false → enabled → s.faults.notice ≠ .none → raiseFlag f s = risen)
        ∧ (flagSet s f = false → enabled → s.faults.notice = .none →
            (hasRoom s = true → raiseFlag f s = enter ⟨true, s.tables.control.panel, s.faults.noticeNumber, .notice⟩
              { risen with faults := { risen.faults with notice := .queued } })
            ∧ (hasRoom s = false → raiseFlag f s =
                claim .notice { risen with faults := { risen.faults with notice := .waitingRoom } })))
    ∧ (∀ s : State, ∃ xs ys : List Nat,
        noticePayload s = b8 xs.length :: xs.map b8 ++ b8 ys.length :: ys.map b8
          ∧ xs.Pairwise (· < ·) ∧ ys.Pairwise (· < ·)
          ∧ (∀ k, k ∈ xs ↔ k < 10 ∧ getAt s.faults.risen k = true)
          ∧ ∀ k, k ∈ ys ↔ k < 10 ∧ getAt s.faults.flags k = true ∧ getAt s.tables.control.enables k = true)
    ∧ ∀ (s : State) (r : Request) (rest : List Request) (cs : List Nat), HeadRequest s r rest (.ack cs) →
    (cs = [] ∨ 10 < cs.length ∨ (∃ c ∈ cs, 9 < c) → exec .ack s = .next (answer r codeRange [] (withQueue rest s)))
      ∧ (cs ≠ [] → cs.length ≤ 10 → (∀ c ∈ cs, c ≤ 9) → ∃ u : State,
          exec .ack s = .next (answer r codeDone (flagsField u) u)
            ∧ u = { withQueue rest s with
                faults := { s.faults with flags := u.faults.flags, alert := anyEnabledFlag u } }
            ∧ (∀ f, flagCode f ∉ cs → flagSet u f = flagSet s f)
            ∧ (flagCode .fire ∈ cs → flagSet u .fire = (flagSet s .fire && s.fire.latch))
            ∧ (flagCode .gasHigh ∈ cs → (flagSet u .gasHigh = true ↔
                flagSet s .gasHigh = true ∧ ∃ z, z < 16 ∧ getAt s.faults.gasHigh z = true))
            ∧ (flagCode .shortfall ∈ cs → (flagSet u .shortfall = true ↔
                flagSet s .shortfall = true ∧ ∃ z, z < 16 ∧ getAt s.faults.shortfall z = true))
            ∧ (∀ f, (f = .fan ∨ f = .sensor ∨ f = .lamp ∨ f = .node ∨ f = .ring) → flagCode f ∈ cs →
                (flagSet u f = true ↔
                  flagSet s f = true ∧ ∃ x ∈ s.faults.list, categoryFlag x.cls = f ∧ x.state ≠ .ended))
            ∧ (∀ f, (f = .store ∨ f = .listFull) → flagCode f ∈ cs → flagSet u f = false))

/-- CLEAR FAULTS: the records of the category whose condition is absent are removed and no other record is; the reply gives
how many were removed and how many of the category were kept; no flag changes; and a fan, a group or a sign whose address
lost a record has the service state that the records left give it, while no other fan, group or sign changes. The categories
are FAN, SENSOR, LAMP, NODE, RING and ALL by the codes 0 to 5, and one above 5 is refused (R140, R141, R160, R172).
`NodeMapExact` is an invariant of the part. The two counts travel in one byte each (the model's reading, log 29). That the
reply is offered after the frames of its effects is the model's choice (log 7). -/
def Obligations.ClearFaultsRemoves : Prop :=
  (∀ c : FaultClass,
      (inCategory 0 c = true ↔ c = .fanStall ∨ c = .fanNoLoad ∨ c = .fanOverspeed ∨ c = .fanDriveTrip)
        ∧ (inCategory 1 c = true ↔ c = .gasSensorFault ∨ c = .baySensorFault) ∧ (inCategory 2 c = true ↔ c = .lampOpen)
        ∧ (inCategory 3 c = true ↔ c = .nodeSilent ∨ c = .actuatorNoTake) ∧ (inCategory 4 c = true ↔ c = .ringSilent)
        ∧ inCategory 5 c = true)
    ∧ ∀ (s : State) (r : Request) (rest : List Request) (k : Nat), HeadRequest s r rest (.clearFaults k) →
    (5 < k → exec .clearFaults s = .next (answer r codeRange [] (withQueue rest s)))
      ∧ (k ≤ 5 → NodeMapExact s →
          let gone := s.faults.list.filter fun x => inCategory k x.cls && !x.present
          let kept := s.faults.list.filter fun x => inCategory k x.cls && x.present
          ∃ u : State,
            exec .clearFaults s = .next (answer r codeDone [b8 gone.length, b8 kept.length] u)
              ∧ u = { s with
                  ring := u.ring, delivery := u.delivery, fans := u.fans, guide := u.guide, light := u.light
                  faults := { s.faults with list := u.faults.list, notice := u.faults.notice }, mgmt := u.mgmt }
              ∧ u.mgmt.queue = rest
              ∧ u.faults.list.map (·.pair)
                  = (s.faults.list.filter fun x => !(inCategory k x.cls && !x.present)).map (·.pair)
              ∧ (∀ x ∈ gone, ∀ i, 1 ≤ x.addr → x.addr ≤ 223 →
                  ((node s x.addr).equipment = some (.fan, i) → (fan u i).service = serviceOf u x.addr)
                    ∧ ((node s x.addr).equipment = some (.luminaire, i) →
                        (group u i).out = decide (serviceOf u x.addr ≠ .inService))
                    ∧ ((node s x.addr).equipment = some (.sign, i) →
                        (getAt u.guide.signs i).out = decide (serviceOf u x.addr ≠ .inService)))
              ∧ ((∀ x ∈ gone, x.addr ≠ 0) → ∀ i,
                  ((∀ x ∈ gone, x.addr ≠ fanAddress s i) → fan u i = fan s i)
                    ∧ ((∀ x ∈ gone, x.addr ≠ (groupEntry s i).addr) → group u i = group s i)
                    ∧ ((∀ x ∈ gone, x.addr ≠ (getAt s.tables.signs i).addr) →
                        getAt u.guide.signs i = getAt s.guide.signs i)))

/-! ## The fire block (chapter 9) -/

/-- FIRE_IN_ACTIVE and FIRE ON set the latch and enter fire mode once: with the latch already set nothing is entered again,
and FIRE ON is answered DONE either way. FIRE_IN going active during loading is held until loading completes. At an entry
the fans the plan names are held and keep their command until their delay ends, every group is FORCED with its hold timer
running on, each group address of R16 has one group command, every level has FIRE, every sign shows EXIT, and the fault
records of R142 are OVERRIDDEN (R16, R84, R108, R114, R122, R142, R149, R150, R154, R155). `GroupStatesFollow` is an
invariant of the part. The order of the hand-overs is a free value (log 6), and what a changed action does to a fan whose
hold is still to come is the model's reading (log 37). That the reply is offered after the frames of its effects is the
model's choice (log 7). -/
def Obligations.FireModeIsEntered : Prop :=
  ∀ s : State,
    (s.phase = .running → s.fire.fireIn = false → s.fire.latch = false → GroupStatesFollow s →
        ∃ t, exec .fireInActive s = .next t ∧ t.fire.fireIn = true ∧ FireEntered s t)
      ∧ (s.phase = .running → s.fire.fireIn = false → s.fire.latch = true →
          exec .fireInActive s = .next { s with fire := { s.fire with fireIn := true } })
      ∧ (∀ afterRestart deadline, s.phase = .loading afterRestart deadline → s.fire.fireIn = false →
          exec .fireInActive s = .next { s with fire := { s.fire with fireIn := true, fireHeld := true } })
      ∧ ∀ (r : Request) (rest : List Request), HeadRequest s r rest .fireOn →
          (s.fire.latch = true → exec .fireOn s = .next (answer r codeDone [] (withQueue rest s)))
            ∧ (s.fire.latch = false → GroupStatesFollow s →
                ∃ u, exec .fireOn s = .next (answer r codeDone [] u) ∧ u.fire.fireIn = s.fire.fireIn
                  ∧ FireEntered (withQueue rest s) u)

/-- FIRE OFF is refused while FIRE_IN is active, changes nothing while the latch is clear, and otherwise leaves fire mode:
no fan is held, a MANUAL one has its manual setting and an AUTO one keeps its commanded setting, the groups and levels lose
FIRE, every sign is computed anew and sent NORMAL, and no record stays OVERRIDDEN (R84, R108, R114, R122, R142, R151, R156).
The order of the hand-overs is a free value, and what each fan is sent is the model's reading (logs 6, 32). That the reply
is offered after the frames of its effects is the model's choice (log 7). -/
def Obligations.FireModeIsLeft : Prop :=
  ∀ (s : State) (r : Request) (rest : List Request), HeadRequest s r rest .fireOff →
    (s.fire.fireIn = true → exec .fireOff s = .next (answer r codeLocked [] (withQueue rest s)))
      ∧ (s.fire.fireIn = false → s.fire.latch = false →
          exec .fireOff s = .next (answer r codeDone [] (withQueue rest s)))
      ∧ (s.fire.fireIn = false → s.fire.latch = true → GroupStatesFollow s →
          ∃ u, exec .fireOff s = .next (answer r codeDone [] u) ∧ FireLeft (withQueue rest s) u)

/-- START_DELAY_EXPIRY: the fan has its plan setting, as its commanded setting and as the desired setting of its delivery
record, whatever its control mode and service state; no other fan and no other timer changes. FIRE_IN_INACTIVE and
KEYSW_CHANGE take the filtered level, and set and clear nothing (R84, R91, R149, R155). That a STOP entry keeps the commanded
direction, where R75 gives 0 FORWARD, is the model's reading (log 30). -/
def Obligations.StartDelaySetsPlan : Prop :=
  (∀ s : State, s.phase ≠ .held →
    exec .fireInInactive s = .next { s with fire := { s.fire with fireIn := false } }
      ∧ ∀ level, exec (.keyswChange level) s = .next { s with fire := { s.fire with keysw := level } })
  ∧ ∀ (s : State) (i e : Nat), s.phase = .running → i < 48 → getAt s.fire.startTimers i = .running e → e ≤ s.clock →
    let p := getAt s.fire.plan i
    let x : FanSetting := match p.action with
      | .runForward => ⟨p.speed, .forward⟩
      | .runReverse => ⟨p.speed, .reverse⟩
      | _ => ⟨0, (fan s i).commanded.direction⟩
    ∃ t, exec (.startDelayExpiry i) s = .next t
      ∧ t = { s with
          ring := { s.ring with
            insertion := t.ring.insertion, claims := t.ring.claims, nextEntry := t.ring.nextEntry }
          delivery := t.delivery, fans := t.fans, faults := { s.faults with list := t.faults.list }
          fire := { s.fire with startTimers := setAt s.fire.startTimers i .expired } }
      ∧ (fan t i).commanded = x ∧ (t.record (.fan i)).desired = some ⟨.fan x, s.fire.latch⟩
      ∧ (x.speed ≠ 0 → t.faults = s.faults ∧ fan t i = { fan s i with commanded := x })
      ∧ (x.speed = 0 → fan t i = { fan s i with
          commanded := x, stall := ⟨none, false⟩, noLoad := ⟨none, false⟩, overspeed := ⟨none, false⟩ })
      ∧ (∀ j, j ≠ i → fan t j = fan s j) ∧ (∀ b, b ≠ .fan i → t.record b = s.record b)

/-! ## The management block and the settings store (chapters 10 and 11) -/

/-- A reply begins with the request's code and the reply code, goes to the request's sender with its tag, and enters the
insertion queue as a NORMAL frame; without room it is the outgoing list's head with the one claim; and while the outgoing
list is not empty or the proxy frame waits for room it joins the list's tail (R160, R163). For a request without a code the
first byte is a free value (the model's choice, log 24). -/
def Obligations.RepliesAreOffered : Prop :=
  ∀ (r : Request) (code : Nat) (content : List Byte) (s : State),
    let payload := r.payload.head?.getD Config.missingCodeByte :: b8 code :: content
    (s.mgmt.outgoing = [] → s.delivery.proxy.state ≠ .waitingRoom → hasRoom s = true →
        answer r code content s = enter ⟨false, r.source, r.tag, .reply payload⟩ s)
      ∧ (s.mgmt.outgoing = [] → s.delivery.proxy.state ≠ .waitingRoom → hasRoom s = false →
          answer r code content s =
            claim .reply { s with mgmt := { s.mgmt with outgoing := [⟨r.source, r.tag, payload⟩] } })
      ∧ (s.mgmt.outgoing ≠ [] ∨ s.delivery.proxy.state = .waitingRoom →
          answer r code content s =
            { s with mgmt := { s.mgmt with outgoing := s.mgmt.outgoing ++ [⟨r.source, r.tag, payload⟩] } })

/-- The request a payload spells: its first byte is the code, and the bytes behind it the fields in order, a number of two
bytes high byte first; a code above 18 or 0, or a length that does not fit the code, is no request. AIM moves the cursor to
an index of a table, base and current alike, and is refused for a table id above 13 or an index past the table's last; a
payload that fits no request is answered UNKNOWN, code 9, and not acted on; the codes 0 to 6 are those of 10.1 (R160, R162,
R164, R165, R166). The widths of the fields are the model's reading (log 29). -/
def Obligations.AimAndUnknownAnswered : Prop :=
  (∀ a b c d e : Byte,
      let n (x y : Byte) : Nat := x.toNat * 256 + y.toNat
      parseRequest [1#8, a, b, c] = .aim a.toNat (n b c)
        ∧ (∀ es, parseRequest (2#8 :: a :: b :: c :: d :: es) = .put a.toNat (n b c) (d :: es))
        ∧ parseRequest [3#8, a] = .fetch a.toNat ∧ parseRequest [4#8] = .keep
        ∧ parseRequest [5#8, a, b] = .state a.toNat b.toNat
        ∧ (∀ es : List Byte, es.length = a.toNat → parseRequest (6#8 :: a :: es) = .ack (es.map (·.toNat)))
        ∧ parseRequest [7#8, a] = .clearFaults a.toNat ∧ parseRequest [8#8, a, b, c] = .manual a.toNat b.toNat c.toNat
        ∧ parseRequest [9#8, a] = .auto a.toNat ∧ parseRequest [10#8, a] = .closeLevel a.toNat
        ∧ parseRequest [11#8, a] = .openLevel a.toNat
        ∧ parseRequest [12#8, a, b, c, d, e] = .holdBays (n a b) (n c d) e.toNat
        ∧ parseRequest [13#8] = .fireOn ∧ parseRequest [14#8] = .fireOff ∧ parseRequest [15#8] = .lockPlan
        ∧ parseRequest [16#8] = .unlockPlan
        ∧ parseRequest [17#8, a, b, c, d, e] = .askNode a.toNat b.toNat c.toNat (n d e)
        ∧ parseRequest [18#8] = .restart)
    ∧ parseRequest [] = .unknown
    ∧ (∀ (c : Byte) (args : List Byte), c.toNat = 0 ∨ 18 < c.toNat → parseRequest (c :: args) = .unknown)
    ∧ (∀ (c n : Nat) (args : List Byte),
        (c, n) ∈ [(1, 3), (3, 1), (4, 0), (5, 2), (7, 1), (8, 3), (9, 1), (10, 1), (11, 1), (12, 5), (13, 0), (14, 0), (15, 0),
          (16, 0), (17, 5), (18, 0)] →
        args.length ≠ n → parseRequest (b8 c :: args) = .unknown)
    ∧ (∀ args : List Byte, args.length < 4 → parseRequest (2#8 :: args) = .unknown)
    ∧ (∀ args : List Byte, (∀ a es, args = a :: es → es.length ≠ a.toNat) → parseRequest (6#8 :: args) = .unknown)
    ∧ [codeDone, codeClamped, codeBusy, codeRange, codeBadEntry, codeLocked, codeNotPermitted, codeUnknown]
        = [0, 1, 2, 3, 4, 5, 6, 9]
    ∧ (List.range 14).map lastIndex = [4, 15, 63, 47, 255, 2047, 63, 7, 31, 47, 95, 9, 47, 63]
    ∧ ∀ (s : State) (r : Request) (rest : List Request) (table index : Nat),
        (HeadRequest s r rest (.aim table index) →
          (13 < table ∨ lastIndex table < index → exec .aim s = .next (answer r codeRange [] (withQueue rest s)))
            ∧ (table ≤ 13 → index ≤ lastIndex table → exec .aim s = .next (answer r codeDone []
                { s with mgmt := { s.mgmt with queue := rest, cursor := ⟨table, index, index⟩ } })))
          ∧ (HeadRequest s r rest .unknown → exec .unknownRequest s = .next (answer r codeUnknown [] (withQueue rest s)))

/-- PUT is checked before any entry is written, in order: the store engine busy, the cursor at FAULTS, the cursor at PLAN
with the plan lock set or fire mode active, and another table or index than the cursor's. The first check that fails gives
the reply, no entry is written and the cursor is not moved. After them an entry stops the write when its bytes give none, or
by a check of its own chapter: a node address or a bay claimed elsewhere, thresholds out of order, a manager, a source or a
trigger named twice, a group range upside down. Every PUT reply carries the table, the base index, the current index after
the PUT, the count of entries written, the first clamped index or 65535, and, for BAD_ENTRY, the index that stopped the
write (R16, R21, R59, R95, R97, R98, R118, R167, R168). The widths of these fields are the model's reading (log 29). -/
def Obligations.PutIsCheckedInOrder : Prop :=
  (∀ (table i : Nat) (bytes : List Byte) (s : State), table ≤ 12 → i ≤ lastIndex table →
      (writeEntry table i bytes s = none ↔ EntryRefused table i bytes s))
    ∧ ∀ (s : State) (r : Request) (rest : List Request) (table index : Nat) (bytes : List Byte),
    HeadRequest s r rest (.put table index bytes) →
    let c := s.mgmt.cursor
    let busy := s.store.engine ≠ .idle
    let locked := c.table = 12 ∧ (s.fire.planLock = true ∨ s.fire.latch = true)
    let refused (code : Nat) : Host.Outcome State Fault Refusal :=
      .next (answer r code (b8 c.table :: b16 c.base ++ b16 c.index ++ [b8 0] ++ b16 65535) (withQueue rest s))
    (busy → exec .put s = refused 2)
      ∧ (¬ busy → c.table = 13 → exec .put s = refused 6)
      ∧ (¬ busy → c.table ≠ 13 → locked → exec .put s = refused 5)
      ∧ (¬ busy → c.table ≠ 13 → ¬ locked → (table ≠ c.table ∨ index ≠ c.index) → exec .put s = refused 3)
      ∧ (¬ busy → c.table ≠ 13 → ¬ locked → table = c.table → index = c.index →
          let p := putRun c.table bytes.length c.index 0 65535 bytes (withQueue rest s)
          ∃ u : State,
            exec .put s = .next (answer r (putCode p)
              (b8 c.table :: b16 c.base ++ b16 u.mgmt.cursor.index ++ [b8 p.count] ++ b16 p.clamped
                ++ (if putCode p = 4 then b16 p.index else [])) u)
              ∧ u.mgmt.cursor.table = c.table ∧ u.mgmt.cursor.base = c.base ∧ u.tables = p.state.tables
              ∧ u.fire = p.state.fire)

/-- PUT writes its entries one by one from the current index. An entry that is taken is in its table as its bytes give it,
and has the effects of its own chapter (`EntryTaken`) and no others. A run goes on with the bytes left and the next index as
long as an entry can be written, and ends at the end of the bytes, past the table's last index, or at a bad entry; each
entry takes at least one byte, so no run is cut short. The reply code is BAD_ENTRY, RANGE, DONE_CLAMPED or DONE by how the
run ended and whether a field was clamped, and the cursor stands after the last entry written, rolled over to 0 past the end
(R22, R50, R53, R59, R74, R92, R95 to R98, R107, R112, R115, R118, R122, R127, R133, R140, R145, R152, R155, R165, R168).
The widths of the reply's fields, the entry's signs at the end of the event and what a changed cluster makes of its bays are
the model's readings (logs 8, 29, 31); ages in whole tenths of a second, which light force index a moved group reads, its
two causes judged as one change, that the clamp of an entry that stops the write does not count, and that the reply is
offered after the frames of the entries, are its choices (logs 7, 9, 41, 42, 44). -/
def Obligations.PutWritesEntries : Prop :=
  (∀ (table i : Nat) (bytes rest : List Byte) (clamped : Bool) (s t : State), s.phase = .running → i ≤ lastIndex table →
      writeEntry table i bytes s = some (t, clamped, rest) → EntryTaken table i bytes rest clamped s t)
    ∧ (∀ (table i n c k fuel : Nat) (bytes rest : List Byte) (clamped : Bool) (s t : State),
      (bytes.length ≤ fuel → putRun table fuel i n c bytes s = putRun table bytes.length i n c bytes s)
        ∧ putRun table fuel i n c [] s = ⟨s, i, n, c, .whole⟩
        ∧ (bytes ≠ [] → lastIndex table < i → putRun table bytes.length i n c bytes s = ⟨s, i, n, c, .pastEnd⟩)
        ∧ (bytes ≠ [] → i ≤ lastIndex table → writeEntry table i bytes s = none →
            putRun table bytes.length i n c bytes s = ⟨s, i, n, c, .stopped⟩)
        ∧ (i ≤ lastIndex table → writeEntry table i bytes s = some (t, clamped, rest) →
            rest.length < bytes.length ∧ ∃ taken, bytes = taken ++ rest
              ∧ (k = (if clamped = true ∧ c = 65535 then i else c) →
                  putRun table bytes.length i n c bytes s = putRun table rest.length (i + 1) (n + 1) k rest t)))
    ∧ ∀ (s : State) (r : Request) (rest : List Request) (bytes : List Byte),
        HeadRequest s r rest (.put s.mgmt.cursor.table s.mgmt.cursor.index bytes) →
        s.store.engine = .idle → s.mgmt.cursor.table ≤ 12 →
        (s.mgmt.cursor.table = 12 → s.fire.planLock = false ∧ s.fire.latch = false) →
        let c := s.mgmt.cursor
        let p := putRun c.table bytes.length c.index 0 65535 bytes (withQueue rest s)
        let i := if lastIndex c.table < p.index then 0 else p.index
        exec .put s = .next (answer r
          (if p.ending = .stopped then 4 else if p.ending = .pastEnd then 3 else if p.clamped = 65535 then 0 else 1)
          (b8 c.table :: b16 c.base ++ b16 i ++ [b8 p.count] ++ b16 p.clamped
            ++ (if p.ending = .stopped then b16 p.index else []))
          { p.state with mgmt := { p.state.mgmt with cursor := { c with index := i } } })

/-- FETCH reads from the current index the most whole entries that the count asked for, the table end and 40 bytes allow, a
FAULTS entry counting as 17, answers DONE with them, and moves the cursor on by as many, to 0 at the table end; nothing else
changes (R165, R166, R169). What an entry beyond the last fault record holds and counts is the model's choice (log 22). -/
def Obligations.FetchReadsEntries : Prop :=
  ∀ (s : State) (r : Request) (rest : List Request) (count : Nat), HeadRequest s r rest (.fetch count) →
    s.mgmt.cursor.index ≤ lastIndex s.mgmt.cursor.table →
    let c := s.mgmt.cursor
    let size (k : Nat) : Nat := if c.table = 13 then 17 else (entryBytes c.table (c.index + k) s).length
    ∃ n, n ≤ count ∧ c.index + n ≤ lastIndex c.table + 1 ∧ ((List.range n).map size).sum ≤ 40
      ∧ (n = count ∨ c.index + n = lastIndex c.table + 1 ∨ 40 < ((List.range (n + 1)).map size).sum)
      ∧ exec .fetch s = .next (answer r codeDone
          (b8 c.table :: b16 c.base ++ b16 c.index ++ [b8 n]
            ++ (List.range n).flatMap fun k => entryBytes c.table (c.index + k) s)
          { s with mgmt := { s.mgmt with
              queue := rest
              cursor := { c with index := if c.index + n = lastIndex c.table + 1 then 0 else c.index + n } } })

/-- KEEP, LOCK PLAN and UNLOCK PLAN: BUSY while the engine works; LOCK PLAN is BAD_ENTRY with the first RUN entry of a fan
without a node address; UNLOCK PLAN is LOCKED with KEYSW inactive; and otherwise the engine starts with the working tables or
the working plan as they stand, and the sender waits for its answer (R157, R158, R170, R178). The one byte of the index is
the model's reading (log 29). -/
def Obligations.StoreRequestsStart : Prop :=
  ∀ (s : State) (r : Request) (rest : List Request),
    let started (op : StoreOp) (ticks : Nat) : State :=
      { s with
        store := { s.store with engine := .busy op (s.clock + ticks) }
        mgmt := { s.mgmt with queue := rest, storeSender := some ⟨r.source, r.tag⟩ } }
    let runs (i : Nat) : Prop := (getAt s.fire.plan i).action = .runForward ∨ (getAt s.fire.plan i).action = .runReverse
    (HeadRequest s r rest .keep →
        (s.store.engine ≠ .idle → exec .keep s = .next (answer r codeBusy [] (withQueue rest s)))
          ∧ (s.store.engine = .idle → exec .keep s = .next (started (.keep s.tables) (4 * second))))
      ∧ (HeadRequest s r rest .lockPlan →
          (s.store.engine ≠ .idle → exec .lockPlan s = .next (answer r codeBusy [] (withQueue rest s)))
            ∧ (∀ i, s.store.engine = .idle → i < 48 → runs i → fanAddress s i = 0 →
                (∀ j, j < i → ¬ (runs j ∧ fanAddress s j = 0)) →
                exec .lockPlan s = .next (answer r codeBadEntry [b8 i] (withQueue rest s)))
            ∧ (s.store.engine = .idle → (∀ i, i < 48 → ¬ (runs i ∧ fanAddress s i = 0)) →
                exec .lockPlan s = .next (started (.lock s.fire.plan) (2 * second))))
      ∧ (HeadRequest s r rest .unlockPlan →
          (s.store.engine ≠ .idle → exec .unlockPlan s = .next (answer r codeBusy [] (withQueue rest s)))
            ∧ (s.store.engine = .idle → s.fire.keysw = false →
                exec .unlockPlan s = .next (answer r codeLocked [] (withQueue rest s)))
            ∧ (s.store.engine = .idle → s.fire.keysw = true →
                exec .unlockPlan s = .next (started (.unlock s.fire.plan) (2 * second))))

/-- STORE_OPERATION_COMPLETE: an operation that read back well leaves its contents in its area, and one that failed leaves
the area bad, sets STORE and is answered REFUSED; a lock request sets or clears the plan lock, and clears it when it fails;
the engine is idle and the sender is answered (R157, R158, R170, R179). That nothing happens without an operation, and that
the STORE notice is offered before the REFUSED reply, are the model's choices (logs 3, 7). -/
def Obligations.StoreOperationEnds : Prop :=
  ∀ (s : State) (ok : Bool), s.phase = .running →
    (s.store.engine = .idle → exec (.storeOperationComplete ok) s = .next s)
      ∧ ∀ op deadline w, s.store.engine = .busy op deadline → s.mgmt.storeSender = some w →
        let t := { s with
          store := match op with
            | .keep c => { s.store with settingsArea := if ok then .good c else .bad, engine := .idle }
            | .lock p => { s.store with planArea := if ok then .good ⟨p, true⟩ else .bad, engine := .idle }
            | .unlock p => { s.store with planArea := if ok then .good ⟨p, false⟩ else .bad, engine := .idle }
          fire := { s.fire with planLock := match op with | .keep _ => s.fire.planLock | .lock _ => ok | .unlock _ => false }
          mgmt := { s.mgmt with storeSender := none } }
        exec (.storeOperationComplete ok) s = .next (sendReply
          ⟨w.source, w.tag, [match op with | .keep _ => 4#8 | .lock _ => 15#8 | .unlock _ => 16#8, if ok then 0#8 else 8#8]⟩
          (if ok then t else raiseFlag .store t))

/-- STATE: the view named is returned with DONE as it stands, and nothing else changes; a number above the range of its
selector, or a selector above 7, is refused; the number is ignored for SUMMARY, SUMMARY RAW and RING. A view is the fields
of its table in order, each in the width of its range, a set as its count and its codes (R18, R72, R93, R116, R130, R147,
R166, R171). That STATE RING serves a selector above 7 is the model's choice (log 5); an absent field is free bytes of its
width, a time is rounded to a tenth in a free way, the fault clock takes 4 bytes, and a name without a code has its place in
its list, with 1 for set, present, active and busy, as the model reads the tables (logs 20, 21, 25, 45); the age of the
oldest arrival is in whole tenths, as the model chose (log 9). -/
def Obligations.StateViewsReturned : Prop :=
  (∀ (s : State) (i : Nat),
      let yes (b : Bool) : List Byte := if b = true then [1#8] else [0#8]
      let gone (view field width : Nat) : List Byte := (List.range width).map (Config.absentByte view field)
      let codes (xs : List Byte) : List Byte := b8 xs.length :: xs
      let only (b : Bool) (c : Byte) : List Byte := if b = true then [c] else []
      let live (view addr : Nat) : List Byte :=
        if addr = 0 then gone view 2 1
        else [match (node s addr).liveness with | .unheard => 0#8 | .live => 1#8 | .silent => 2#8]
      let speed (x : FanSetting) : List Byte := [b8 x.speed, match x.direction with | .forward => 0#8 | .reverse => 1#8]
      let sends (a : Actuator) : List Byte :=
        [match (s.record a).state with
          | .idle => 0#8 | .queued => 1#8 | .inFlight => 2#8 | .resendWait => 3#8 | .waitingRoom => 4#8,
         b8 (s.record a).attempts]
      let left (view field : Nat) (t : Timer) : List Byte :=
        match t with | some e => b16 (tenthsLeft s.clock e) | none => gone view field 2
      let arrow (x : Arrow) : Byte := match x with
        | .none => 0#8 | .left => 1#8 | .right => 2#8 | .ahead => 3#8 | .upRamp => 4#8 | .downRamp => 5#8
      let shows (field : Nat) (x : SignSetting) : List Byte :=
        (match x.mode with
          | .number v => 0#8 :: b16 v
          | .full => 1#8 :: gone 4 field 2
          | .closed => 2#8 :: gone 4 field 2
          | .exit => 3#8 :: gone 4 field 2) ++ [arrow x.arrow]
      (let r := getAt s.air.zones i
       viewZone i s = [[b8 i], yes r.evaluated, b16 r.airIndex, (match r.source with | some k => [b8 k] | none => gone 0 3 1),
        [b8 r.usable], b16 r.load, b16 r.trafficIndex, b16 r.demand,
        [match r.stage with | .off => 0#8 | .low => 1#8 | .mid => 2#8 | .high => 3#8],
        [b8 r.dwell], [b8 r.airflow], yes r.shortfall, yes r.gasHigh].flatten)
      ∧ (let r := getAt s.guide.levels i
         let z := r.reasons
         viewLevel i s = [[b8 i], b16 r.free, [b8 r.arrivals.length],
          (match r.arrivals with | x :: _ => b16 (tenthsSinceStart s - x.time) ++ [b8 x.lane] | [] => gone 1 3 3),
          b16 r.dropped, b16 r.aged, codes (only z.air 0#8 ++ only z.shortfall 1#8 ++ only z.fire 2#8 ++ only z.operator 3#8),
          yes (levelClosed s i)].flatten)
      ∧ (let r := fan s i
         let runs := [(0#8, r.stall.timer), (1#8, r.noLoad.timer), (2#8, r.overspeed.timer)].filter fun p => p.2.isSome
         viewFan i s = [[b8 i], [b8 (fanAddress s i)], live 2 (fanAddress s i), yes r.manualMode, speed r.manual,
          speed r.commanded, (match (s.record (.fan i)).lastTaken with | some (.fan x) => speed x | _ => gone 2 6 2),
          sends (.fan i),
          (match r.service with | .inService => 0#8 :: gone 2 8 1 | .out .stop => [1#8, 0#8] | .out .release => [1#8, 1#8]),
          yes r.held,
          (match r.reported with
            | some x => b8 x.speed :: b16 x.current ++ [match x.direction with | .forward => 0#8 | .reverse => 1#8,
                match x.status with | .running => 0#8 | .stopped => 1#8 | .tripped => 2#8]
            | none => gone 2 10 5),
          codes (only r.stall.present 0#8 ++ only r.noLoad.present 1#8 ++ only r.overspeed.present 2#8 ++ only r.trip 3#8),
          b8 runs.length :: runs.flatMap fun p => p.1 :: b16 (tenthsLeft s.clock (p.2.getD 0))].flatten)
      ∧ (let e := groupEntry s i
         let r := group s i
         viewGroup i s = [[b8 i], [b8 e.addr], live 3 e.addr, [b8 e.zone], [b8 e.level],
          [match r.state with | .base => 0#8 | .hold => 1#8 | .forced => 2#8],
          codes (only r.causes.fire 0#8 ++ only r.causes.air 1#8 ++ only r.causes.shortfall 2#8), left 3 7 r.holdTimer,
          [b8 r.target], (match r.output with | some n => [b8 n] | none => gone 3 9 1), yes r.out, sends (.group i),
          (match (s.record (.group i)).lastTaken with | some (.luminaire n) => [b8 n] | _ => gone 3 12 1),
          (match r.reported with | some x => b8 x.output :: b16 x.current | none => gone 3 13 3),
          yes r.lamp.present, left 3 15 r.lamp.timer].flatten)
      ∧ (let e := getAt s.tables.signs i
         let r := getAt s.guide.signs i
         viewSign i s = [[b8 i], [b8 e.addr], live 4 e.addr, shows 3 r.computed,
          (match r.lastSent with | some x => shows 4 x | none => gone 4 4 4), yes r.pending, left 4 6 r.timer, yes r.out,
          sends (.sign i),
          (match (s.record (.sign i)).lastTaken with | some (.sign x) => shows 10 x | _ => gone 4 10 4)].flatten)
      ∧ (let count (st : RecordState) : Byte := b8 (s.faults.list.countP fun x => decide (x.state = st))
         viewSummary s = [(List.range 10).flatMap (fun k => yes (getAt s.faults.flags k && getAt s.tables.control.enables k)),
          (List.range 10).flatMap (fun k => yes (getAt s.tables.control.enables k)), yes s.faults.alert,
          [b8 s.faults.list.length, count .active, count .out, count .latched, count .ended], yes s.fire.latch,
          yes (decide (s.store.engine ≠ .idle)), b32 (faultClock s)].flatten)
      ∧ flagsField s = (List.range 10).flatMap (fun k => yes (getAt s.faults.flags k))
      ∧ (let r := s.ring
         viewRing s = [[b8 r.ownAddress], b16 (match r.rate with | 0 => 125 | 1 => 250 | _ => 500), b16 r.relayed,
          b16 r.badCheck, b16 r.hopExpiry, b16 r.relayFull,
          [b8 r.relayQueue.length, b8 r.insertion.length, b8 r.claims.length], yes r.ringSilent].flatten))
    ∧ ∀ (s : State) (r : Request) (rest : List Request) (k n : Nat), HeadRequest s r rest (.state k n) →
    let t := withQueue rest s
    let view (top : Nat) (bytes : List Byte) : Host.Outcome State Fault Refusal :=
      .next (if top < n then answer r codeRange [] t else answer r codeDone bytes t)
    (k = 0 → exec .stateZone s = view 15 (viewZone n s)) ∧ (k = 1 → exec .stateLevel s = view 7 (viewLevel n s))
      ∧ (k = 2 → exec .stateFan s = view 47 (viewFan n s)) ∧ (k = 3 → exec .stateGroup s = view 95 (viewGroup n s))
      ∧ (k = 4 → exec .stateSign s = view 47 (viewSign n s))
      ∧ (k = 5 → exec .stateSummary s = .next (answer r codeDone (viewSummary s) t))
      ∧ (k = 6 → exec .stateSummaryRaw s = .next (answer r codeDone (flagsField s) t))
      ∧ (k = 7 → exec .stateRing s = .next (answer r codeDone (viewRing s) t))
      ∧ (7 < k → exec .stateRing s = .next (answer r codeRange [] t))

/-- ASK NODE: its checks in order, and then the proxy access starts with its sender held for the answer, its frame queued or
waiting for room (R11, R51, R175). -/
def Obligations.AskNodeStartsProxy : Prop :=
  ∀ (s : State) (r : Request) (rest : List Request) (target op id value : Nat),
    HeadRequest s r rest (.askNode target op id value) →
    let range := target = 0 ∨ 223 < target ∨ (op ≠ 1 ∧ op ≠ 2)
    let v := if op = 1 then 0 else value
    let t (st : ProxyState) : State :=
      { s with
        delivery := { s.delivery with proxy := ⟨st, target, op, id, v, 0, none⟩ }
        mgmt := { s.mgmt with queue := rest, proxySender := some ⟨r.source, r.tag⟩ } }
    (range → exec .askNode s = .next (answer r codeRange [] (withQueue rest s)))
      ∧ (¬ range → op = 2 → id ≤ 15 → exec .askNode s = .next (answer r codeNotPermitted [] (withQueue rest s)))
      ∧ (¬ range → ¬ (op = 2 ∧ id ≤ 15) → s.delivery.proxy.state ≠ .idle →
          exec .askNode s = .next (answer r codeBusy [] (withQueue rest s)))
      ∧ (¬ range → ¬ (op = 2 ∧ id ≤ 15) → s.delivery.proxy.state = .idle → hasRoom s = true →
          exec .askNode s = .next (enter ⟨false, target, 0, .proxy op id v⟩ (t .queued)))
      ∧ (¬ range → ¬ (op = 2 ∧ id ≤ 15) → s.delivery.proxy.state = .idle → hasRoom s = false →
          exec .askNode s = .next (claim .proxy (t .waitingRoom)))

/-- RESTART is BUSY while the store engine works, waits while a frame is being sent on port B, and otherwise takes effect at
once; RESTART_EFFECT is its taking effect once that frame has gone (R20, R148, R159, R176). That the old tables and plan
stand until loading completes is the model's reading (log 15), that RESTART_EFFECT does nothing otherwise and that the fault
clock starts at the restart are its choices (logs 3, 13). -/
def Obligations.RestartTakesEffectOnce : Prop :=
  ∀ s : State,
    (∀ (r : Request) (rest : List Request), HeadRequest s r rest .restart →
        (s.store.engine ≠ .idle → exec .restart s = .next (answer r codeBusy [] (withQueue rest s)))
          ∧ (s.store.engine = .idle → portBSending s = true →
              exec .restart s = .next { s with mgmt := { s.mgmt with queue := rest, restartPending := true } })
          ∧ (s.store.engine = .idle → portBSending s = false → ∃ t, exec .restart s = .next t ∧ Restarted s t))
      ∧ (s.phase = .running → s.mgmt.restartPending = true → portBSending s = false →
          ∃ t, exec .restartEffect s = .next t ∧ Restarted s t)
      ∧ (s.phase ≠ .running ∨ s.mgmt.restartPending = false ∨ portBSending s = true →
          exec .restartEffect s = .next s)

/-! ## Codings and invariants -/

/-- FETCH gives back what PUT wrote, for the 13 tables that can be written: after an entry is taken, its bytes in a FETCH
(the first three of PLAN, whose lock and timer FETCH adds) are the ones the PUT carried when nothing was clamped; sent again
they are taken unclamped and leave every table as it is; and no other entry changes. That PLAN's lock byte is 1 for set, and
the rounding of its start timer, are the model's readings (logs 21, 25). FAN_DRIVE_TRIP and RING_SILENT never hold IGNORE.
Below them the codecs: what is read lies within its ranges, and an entry within its ranges is read back as it was written
(R133, R152, R166, R168, R169). -/
def Obligations.EntriesReadBack : Prop :=
  (∀ (table i : Nat) (bytes rest tail : List Byte) (clamped : Bool) (s t : State), i ≤ lastIndex table →
      writeEntry table i bytes s = some (t, clamped, rest) →
      let own := if table = 12 then (entryBytes table i t).take 3 else entryBytes table i t
      (clamped = false → bytes = own ++ rest)
        ∧ (∃ u, writeEntry table i (own ++ tail) t = some (u, false, tail) ∧ u.tables = t.tables ∧ u.fire.plan = t.fire.plan)
        ∧ (∀ k j, k ≤ 12 → j ≤ lastIndex k → (k, j) ≠ (table, i) → entryBytes k j t = entryBytes k j s)
        ∧ (table = 11 → i = 3 ∨ i = 9 → (getAt t.tables.responses i).mode ≠ .ignore))
    ∧ (∀ (i : Nat) (s : State), entryBytes 12 i s = writePlan (getAt s.fire.plan i) ++
        (if s.fire.planLock = true then 1#8 else 0#8) :: match getAt s.fire.startTimers i with
          | .running e => b16 (tenthsLeft s.clock e) | .expired => [255#8, 254#8] | .stopped => [255#8, 255#8])
    ∧ ∀ (bytes rest tail : List Byte) (clamped : Bool),
    (∀ (part : Nat) (c d : Control),
        (readControl part c (bytes, false) = some (d, rest, clamped) →
          d.InRange part ∧ readControl part c (writeControl part d ++ tail, false) = some (d, tail, false))
        ∧ (d.InRange part → readControl part d (writeControl part d ++ tail, false) = some (d, tail, false)))
      ∧ (∀ e : ZoneEntry, (readZone (bytes, false) = some (e, rest, clamped) → e.InRange)
          ∧ (e.InRange → readZone (writeZone e ++ tail, false) = some (e, tail, false)))
      ∧ (∀ e : GasEntry, (readGas (bytes, false) = some (e, rest, clamped) → e.InRange)
          ∧ (e.InRange → readGas (writeGas e ++ tail, false) = some (e, tail, false)))
      ∧ (∀ e : FanEntry, (readFan (bytes, false) = some (e, rest, clamped) → e.InRange)
          ∧ (e.InRange → readFan (writeFan e ++ tail, false) = some (e, tail, false)))
      ∧ (∀ e : ClusterEntry, (readCluster (bytes, false) = some (e, rest, clamped) → e.InRange)
          ∧ (e.InRange → readCluster (writeCluster e ++ tail, false) = some (e, tail, false)))
      ∧ (∀ e : BayEntry, (readBay (bytes, false) = some (e, rest, clamped) → e.InRange)
          ∧ (e.InRange → readBay (writeBay e ++ tail, false) = some (e, tail, false)))
      ∧ (∀ e : RowEntry, (readRow (bytes, false) = some (e, rest, clamped) → e.InRange)
          ∧ (e.InRange → readRow (writeRow e ++ tail, false) = some (e, tail, false)))
      ∧ (∀ e : LevelEntry, (readLevels (bytes, false) = some (e, rest, clamped) → e.InRange)
          ∧ (e.InRange → readLevels (writeLevels e ++ tail, false) = some (e, tail, false)))
      ∧ (∀ e : LaneEntry, (readLane (bytes, false) = some (e, rest, clamped) → e.InRange)
          ∧ (e.InRange → readLane (writeLane e ++ tail, false) = some (e, tail, false)))
      ∧ (∀ e : SignEntry, (readSign (bytes, false) = some (e, rest, clamped) → e.InRange)
          ∧ (e.InRange → readSign (writeSign e ++ tail, false) = some (e, tail, false)))
      ∧ (∀ e : GroupEntry, (readGroup (bytes, false) = some (e, rest, clamped) → e.InRange)
          ∧ (e.InRange → readGroup (writeGroup e ++ tail, false) = some (e, tail, false)))
      ∧ (∀ e : ResponseEntry, (readResponse (bytes, false) = some (e, rest, clamped) → e.InRange)
          ∧ (e.InRange → readResponse (writeResponse e ++ tail, false) = some (e, tail, false)))
      ∧ (∀ e : PlanEntry, (readPlan (bytes, false) = some (e, rest, clamped) → e.InRange)
          ∧ (e.InRange → readPlan (writePlan e ++ tail, false) = some (e, tail, false)))

/-- Every step keeps the capacities of the lists, and the outgoing list with the answers owed within 3; and it keeps the
claims list to one claim for the management block, exactly while a reply or the proxy frame waits, one for the notice,
exactly while it waits, and one for each group command. With one for each record that waits, at most 209 claims stand (R9,
R10, R11, R14, R16, R105, R146, R162, R163). -/
def Obligations.ListsStayBounded : Prop :=
  (∀ s t : State, WithinCapacities s → RepliesBounded s → step s = .next t → WithinCapacities t ∧ RepliesBounded t)
    ∧ (∀ s t : State, ClaimsAgree s → step s = .next t → ClaimsAgree t)
    ∧ ∀ s : State, DeliveryAgrees s → ClaimsAgree s → s.ring.claims.length ≤ 209

/-- Every step keeps the insertion queue in the order of R10, and queue, claims and delivery records in agreement (R10, R11,
R38, R42); and it keeps the tags of the frames in flight different (R43). The capacities are an invariant of their own. -/
def Obligations.QueueAndRecordsAgree : Prop :=
  (∀ s t : State, WithinCapacities s → QueueOrdered s → DeliveryAgrees s → step s = .next t →
    QueueOrdered t ∧ DeliveryAgrees t)
    ∧ ∀ s t : State, TagsDistinct s → step s = .next t → TagsDistinct t

/-- Every step keeps the fault list at 64 records or fewer, one for a pair of class and address, with a retry timer exactly
in OUT (R134); and after it ALERT is active exactly when a set flag is enabled, and released while RESET is held (R145). -/
def Obligations.FaultListAndAlertHold : Prop :=
  ∀ s t : State, FaultListHolds s → AlertExact s → step s = .next t → FaultListHolds t ∧ AlertExact t

/-- After every step a set plan lock means that the working plan equals the plan in the plan area (R158). -/
def Obligations.PlanLockIsKept : Prop :=
  ∀ s t : State, PlanLockHolds s → step s = .next t → PlanLockHolds t

/-- After every step every free count counts the bays that are FREE and not held (R104), and a bay's settle timer runs
exactly while a pending state is present (R99). -/
def Obligations.FreeCountsStayExact : Prop :=
  (∀ s t : State, FreeCountsExact s → step s = .next t → FreeCountsExact t)
    ∧ ∀ s t : State, SettleTimersFollow s → step s = .next t → SettleTimersFollow t

/-- After every step each luminaire group's state follows from its causes and its hold timer (R119). -/
def Obligations.GroupStatesAreKept : Prop :=
  ∀ s t : State, GroupStatesFollow s → step s = .next t → GroupStatesFollow t

/-- After every step each sign's computed setting is that of R111, and it is sent, pending or equal (R111, R112, R113,
R115). -/
def Obligations.SignsStayCurrent : Prop :=
  ∀ s t : State, SignsCurrent s → step s = .next t → SignsCurrent t

/-- After every step no two entries name one address, and the node map holds the entry that names each (R21, R22). -/
def Obligations.NodeMapStaysExact : Prop :=
  ∀ s t : State, NodeMapExact s → step s = .next t → NodeMapExact t
end

