-- ==== Sys2Proof/Laws/Lift.lean ====
section
/-! SUPPORT. Laws/Lift.lean: how a property passes from one hand-over to many: through `forEach`, `forList`, a fold, and
hand-overs in no stated order. -/

namespace Sys2Proof.Machine

/-- What holds before and is kept by each step of a fold holds after it. -/
theorem foldl_holds {α β : Type} {P : β → Prop} {f : β → α → β} (h : ∀ t x, P t → P (f t x)) :
    ∀ (xs : List α) (t : β), P t → P (xs.foldl f t)
  | [], _, ht => ht
  | x :: xs, t, ht => foldl_holds h xs (f t x) (h t x ht)

/-- What each step of a fold over a list keeps for the members of the list holds after it. -/
theorem foldl_holds_mem {α β : Type} {P : β → Prop} {f : β → α → β} :
    ∀ (xs : List α) (t : β), (∀ t x, x ∈ xs → P t → P (f t x)) → P t → P (xs.foldl f t)
  | [], _, _, ht => ht
  | x :: xs, t, h, ht =>
    foldl_holds_mem xs (f t x) (fun t y hy => h t y (List.mem_cons_of_mem _ hy)) (h t x List.mem_cons_self ht)

/-- A reflexive and transitive relation that each step keeps relates the two ends of a fold. -/
theorem foldl_frame {α β : Type} {R : β → β → Prop} (refl : ∀ t, R t t) (trans : ∀ {a b c}, R a b → R b c → R a c)
    {f : β → α → β} (h : ∀ t x, R t (f t x)) (xs : List α) (t : β) : R t (xs.foldl f t) :=
  foldl_holds (P := R t) (fun u x hu => trans hu (h u x)) xs t (refl t)

/-- `forEach` keeps what each of its steps keeps. -/
theorem forEach_holds {P : State → Prop} {f : Nat → State → State} (h : ∀ i t, P t → P (f i t)) (n : Nat) (s : State)
    (hs : P s) : P (forEach n f s) := foldl_holds (fun t i ht => h i t ht) _ s hs

/-- `forEach` keeps what each of its steps below the bound keeps. -/
theorem forEach_holds_lt {P : State → Prop} {f : Nat → State → State} (n : Nat) (h : ∀ i t, i < n → P t → P (f i t))
    (s : State) (hs : P s) : P (forEach n f s) :=
  foldl_holds_mem _ s (fun t i hi ht => h i t (List.mem_range.mp hi) ht) hs

/-- A frame of each step is a frame of `forEach`. -/
theorem forEach_frame {R : State → State → Prop} (refl : ∀ t, R t t) (trans : ∀ {a b c}, R a b → R b c → R a c)
    {f : Nat → State → State} (h : ∀ i t, R t (f i t)) (n : Nat) (s : State) : R s (forEach n f s) :=
  foldl_frame refl trans (fun t i => h i t) _ s

/-- One more place of `forEach` is its last step. -/
theorem forEach_succ (n : Nat) (f : Nat → State → State) (s : State) : forEach (n + 1) f s = f n (forEach n f s) := by
  simp [forEach, List.range_succ]

/-- No places, no change. -/
@[simp] theorem forEach_zero (f : Nat → State → State) (s : State) : forEach 0 f s = s := rfl

/-- `forList` keeps what each of its steps keeps. -/
theorem forList_holds {P : State → Prop} {f : Nat → State → State} (h : ∀ i t, P t → P (f i t)) (xs : List Nat)
    (s : State) (hs : P s) : P (forList xs f s) := foldl_holds (fun t i ht => h i t ht) xs s hs

/-- A frame of each step is a frame of `forList`. -/
theorem forList_frame {R : State → State → Prop} (refl : ∀ t, R t t) (trans : ∀ {a b c}, R a b → R b c → R a c)
    {f : Nat → State → State} (h : ∀ i t, R t (f i t)) (xs : List Nat) (s : State) : R s (forList xs f s) :=
  foldl_frame refl trans (fun t i => h i t) xs s

/-- A property that every hand-over and every draw keep holds after the hand-overs, whatever their order. -/
theorem inAnyOrder_go_holds {P : State → Prop} (draws : ∀ (s : State) n, P s → P { s with draws := n }) :
    ∀ (n : Nat) (fs : List (State → State)) (s : State), (∀ f ∈ fs, ∀ t, P t → P (f t)) → P s → P (inAnyOrder.go n fs s)
  | 0, _, _, _, hs => hs
  | n + 1, fs, s, h, hs => by
    refine inAnyOrder_go_holds draws n _ _ (fun f hf => h f (List.mem_of_mem_eraseIdx hf)) ?_
    cases hk : fs[draw s fs.length]? with
    | none => exact draws s _ hs
    | some f => exact h f (List.mem_of_getElem? hk) _ (draws s _ hs)

/-- Hand-overs in no stated order keep what each of them and every draw keep. -/
theorem inAnyOrder_holds {P : State → Prop} (draws : ∀ (s : State) n, P s → P { s with draws := n })
    {fs : List (State → State)} (h : ∀ f ∈ fs, ∀ t, P t → P (f t)) (s : State) (hs : P s) : P (inAnyOrder fs s) := by
  match fs with
  | [] => exact hs
  | [f] => exact h f (by simp) s hs
  | f :: g :: rest => exact inAnyOrder_go_holds draws _ _ s h hs

/-- A frame of every hand-over and of every draw is a frame of the hand-overs, whatever their order. -/
theorem inAnyOrder_frame {R : State → State → Prop} (refl : ∀ t, R t t) (trans : ∀ {a b c}, R a b → R b c → R a c)
    (draws : ∀ (s : State) n, R s { s with draws := n }) {fs : List (State → State)} (h : ∀ f ∈ fs, ∀ t, R t (f t))
    (s : State) : R s (inAnyOrder fs s) :=
  inAnyOrder_holds (P := R s) (fun t n ht => trans ht (draws t n)) (fun f hf t ht => trans ht (h f hf t)) s (refl s)

/-- The hand-overs are taken one by one in some order, a draw before each. -/
theorem inAnyOrder_go_establishes {P : State → Prop} (draws : ∀ (s : State) n, P s → P { s with draws := n })
    {f : State → State} (hf : ∀ t, P (f t)) :
    ∀ (n : Nat) (fs : List (State → State)) (s : State), fs.length = n → f ∈ fs → (∀ g ∈ fs, ∀ t, P t → P (g t)) →
      P (inAnyOrder.go n fs s)
  | 0, fs, _, hn, hm, _ => by simp [List.length_eq_zero_iff.mp hn] at hm
  | n + 1, fs, s, hn, hm, h => by
    have hk : draw s fs.length < fs.length := Nat.mod_lt _ (by omega)
    unfold inAnyOrder.go
    by_cases hfk : fs[draw s fs.length] = f
    · refine inAnyOrder_go_holds draws n _ _ (fun g hg => h g (List.mem_of_mem_eraseIdx hg)) ?_
      simp [List.getElem?_eq_getElem hk, hfk, hf]
    · refine inAnyOrder_go_establishes draws hf n _ _ (by rw [List.length_eraseIdx_of_lt hk, hn]; rfl) ?_
        (fun g hg => h g (List.mem_of_mem_eraseIdx hg))
      obtain ⟨i, hi, rfl⟩ := List.mem_iff_getElem.mp hm
      refine List.mem_eraseIdx_iff_getElem.mpr ⟨i, hi, fun e => hfk ?_, rfl⟩
      simp [← e]

/-- What one of the hand-overs establishes, and the others and every draw keep, holds after them. -/
theorem inAnyOrder_establishes {P : State → Prop} (draws : ∀ (s : State) n, P s → P { s with draws := n })
    {fs : List (State → State)} {f : State → State} (hm : f ∈ fs) (hf : ∀ t, P (f t)) (h : ∀ g ∈ fs, ∀ t, P t → P (g t))
    (s : State) : P (inAnyOrder fs s) := by
  match fs, hm with
  | [g], hm => simpa [inAnyOrder, ← List.mem_singleton.mp hm] using hf s
  | a :: b :: rest, hm => exact inAnyOrder_go_establishes draws hf _ _ s (by simp) hm h

end Sys2Proof.Machine
end

