-- ==== Sys2Proof/Laws/FramesDelivery.lean ====
section
/-! SUPPORT. Laws/FramesDelivery.lean: what each operation of the queue, the delivery records, the flags and the signs leaves as it is: one lemma an operation,
field by field of the state. -/

namespace Sys2Proof.Machine

/-- What `setRecord` leaves as it is. -/
@[simp] theorem setRecord_frame (a : Actuator) (r : DeliveryRecord) (s : State) :
    (s.setRecord a r).pending = s.pending ∧ (s.setRecord a r).clock = s.clock ∧ (s.setRecord a r).epoch = s.epoch ∧
      (s.setRecord a r).draws = s.draws ∧ (s.setRecord a r).phase = s.phase ∧ (s.setRecord a r).ring = s.ring ∧
      (s.setRecord a r).nodes = s.nodes ∧ (s.setRecord a r).delivery.tagCounter = s.delivery.tagCounter ∧
      (s.setRecord a r).delivery.proxy = s.delivery.proxy ∧ (s.setRecord a r).delivery.noTake = s.delivery.noTake ∧
      (s.setRecord a r).air = s.air ∧ (s.setRecord a r).fans = s.fans ∧ (s.setRecord a r).guide = s.guide ∧
      (s.setRecord a r).light = s.light ∧ (s.setRecord a r).faults = s.faults ∧ (s.setRecord a r).fire = s.fire ∧
      (s.setRecord a r).mgmt = s.mgmt ∧ (s.setRecord a r).tables = s.tables ∧ (s.setRecord a r).store = s.store := by
  cases a <;> simp [State.setRecord, Delivery.setRecord]

/-- What `enter` leaves as it is. -/
@[simp] theorem enter_frame (d : Draft) (s : State) :
    (enter d s).pending = s.pending ∧ (enter d s).clock = s.clock ∧ (enter d s).epoch = s.epoch ∧
      (enter d s).draws = s.draws ∧ (enter d s).phase = s.phase ∧ (enter d s).ring.ownAddress = s.ring.ownAddress ∧
      (enter d s).ring.rate = s.ring.rate ∧ (enter d s).ring.relayQueue = s.ring.relayQueue ∧
      (enter d s).ring.claims = s.ring.claims ∧ (enter d s).ring.runCount = s.ring.runCount ∧
      (enter d s).ring.relayed = s.ring.relayed ∧ (enter d s).ring.badCheck = s.ring.badCheck ∧
      (enter d s).ring.hopExpiry = s.ring.hopExpiry ∧ (enter d s).ring.relayFull = s.ring.relayFull ∧
      (enter d s).ring.ringSilent = s.ring.ringSilent ∧ (enter d s).ring.silenceTimer = s.ring.silenceTimer ∧
      (enter d s).ring.portB = s.ring.portB ∧ (enter d s).nodes = s.nodes ∧ (enter d s).delivery = s.delivery ∧
      (enter d s).air = s.air ∧ (enter d s).fans = s.fans ∧ (enter d s).guide = s.guide ∧
      (enter d s).light = s.light ∧ (enter d s).faults = s.faults ∧ (enter d s).fire = s.fire ∧
      (enter d s).mgmt = s.mgmt ∧ (enter d s).tables = s.tables ∧ (enter d s).store = s.store := by
  simp [enter]

/-- What `claim` leaves as it is. -/
@[simp] theorem claim_frame (c : Claim) (s : State) :
    (claim c s).pending = s.pending ∧ (claim c s).clock = s.clock ∧ (claim c s).epoch = s.epoch ∧
      (claim c s).draws = s.draws ∧ (claim c s).phase = s.phase ∧ (claim c s).ring.ownAddress = s.ring.ownAddress ∧
      (claim c s).ring.rate = s.ring.rate ∧ (claim c s).ring.relayQueue = s.ring.relayQueue ∧
      (claim c s).ring.insertion = s.ring.insertion ∧ (claim c s).ring.runCount = s.ring.runCount ∧
      (claim c s).ring.relayed = s.ring.relayed ∧ (claim c s).ring.badCheck = s.ring.badCheck ∧
      (claim c s).ring.hopExpiry = s.ring.hopExpiry ∧ (claim c s).ring.relayFull = s.ring.relayFull ∧
      (claim c s).ring.ringSilent = s.ring.ringSilent ∧ (claim c s).ring.silenceTimer = s.ring.silenceTimer ∧
      (claim c s).ring.portB = s.ring.portB ∧ (claim c s).ring.nextEntry = s.ring.nextEntry ∧
      (claim c s).nodes = s.nodes ∧ (claim c s).delivery = s.delivery ∧ (claim c s).air = s.air ∧
      (claim c s).fans = s.fans ∧ (claim c s).guide = s.guide ∧ (claim c s).light = s.light ∧
      (claim c s).faults = s.faults ∧ (claim c s).fire = s.fire ∧ (claim c s).mgmt = s.mgmt ∧
      (claim c s).tables = s.tables ∧ (claim c s).store = s.store := by
  simp [claim]

/-- What `offer` leaves as it is. -/
@[simp] theorem offer_frame (c : Claim) (d : Draft) (s : State) :
    (offer c d s).pending = s.pending ∧ (offer c d s).clock = s.clock ∧ (offer c d s).epoch = s.epoch ∧
      (offer c d s).draws = s.draws ∧ (offer c d s).phase = s.phase ∧
      (offer c d s).ring.ownAddress = s.ring.ownAddress ∧ (offer c d s).ring.rate = s.ring.rate ∧
      (offer c d s).ring.relayQueue = s.ring.relayQueue ∧ (offer c d s).ring.runCount = s.ring.runCount ∧
      (offer c d s).ring.relayed = s.ring.relayed ∧ (offer c d s).ring.badCheck = s.ring.badCheck ∧
      (offer c d s).ring.hopExpiry = s.ring.hopExpiry ∧ (offer c d s).ring.relayFull = s.ring.relayFull ∧
      (offer c d s).ring.ringSilent = s.ring.ringSilent ∧ (offer c d s).ring.silenceTimer = s.ring.silenceTimer ∧
      (offer c d s).ring.portB = s.ring.portB ∧ (offer c d s).nodes = s.nodes ∧ (offer c d s).delivery = s.delivery ∧
      (offer c d s).air = s.air ∧ (offer c d s).fans = s.fans ∧ (offer c d s).guide = s.guide ∧
      (offer c d s).light = s.light ∧ (offer c d s).faults = s.faults ∧ (offer c d s).fire = s.fire ∧
      (offer c d s).mgmt = s.mgmt ∧ (offer c d s).tables = s.tables ∧ (offer c d s).store = s.store := by
  simp only [offer]
  repeat' split
  all_goals simp

/-- What `offerOutgoing` leaves as it is. -/
@[simp] theorem offerOutgoing_frame (l : List Reply) (s : State) :
    (offerOutgoing l s).pending = s.pending ∧ (offerOutgoing l s).clock = s.clock ∧
      (offerOutgoing l s).epoch = s.epoch ∧ (offerOutgoing l s).draws = s.draws ∧
      (offerOutgoing l s).phase = s.phase ∧ (offerOutgoing l s).ring.ownAddress = s.ring.ownAddress ∧
      (offerOutgoing l s).ring.rate = s.ring.rate ∧ (offerOutgoing l s).ring.relayQueue = s.ring.relayQueue ∧
      (offerOutgoing l s).ring.runCount = s.ring.runCount ∧ (offerOutgoing l s).ring.relayed = s.ring.relayed ∧
      (offerOutgoing l s).ring.badCheck = s.ring.badCheck ∧ (offerOutgoing l s).ring.hopExpiry = s.ring.hopExpiry ∧
      (offerOutgoing l s).ring.relayFull = s.ring.relayFull ∧
      (offerOutgoing l s).ring.ringSilent = s.ring.ringSilent ∧
      (offerOutgoing l s).ring.silenceTimer = s.ring.silenceTimer ∧ (offerOutgoing l s).ring.portB = s.ring.portB ∧
      (offerOutgoing l s).nodes = s.nodes ∧ (offerOutgoing l s).delivery = s.delivery ∧
      (offerOutgoing l s).air = s.air ∧ (offerOutgoing l s).fans = s.fans ∧ (offerOutgoing l s).guide = s.guide ∧
      (offerOutgoing l s).light = s.light ∧ (offerOutgoing l s).faults = s.faults ∧
      (offerOutgoing l s).fire = s.fire ∧ (offerOutgoing l s).mgmt.queue = s.mgmt.queue ∧
      (offerOutgoing l s).mgmt.cursor = s.mgmt.cursor ∧ (offerOutgoing l s).mgmt.storeSender = s.mgmt.storeSender ∧
      (offerOutgoing l s).mgmt.proxySender = s.mgmt.proxySender ∧
      (offerOutgoing l s).mgmt.restartPending = s.mgmt.restartPending ∧ (offerOutgoing l s).tables = s.tables ∧
      (offerOutgoing l s).store = s.store := by
  induction l generalizing s with
  | nil => simp [offerOutgoing]
  | cons r rs ih => simp only [offerOutgoing]; split <;> simp [ih]

/-- What `sendReply` leaves as it is. -/
@[simp] theorem sendReply_frame (r : Reply) (s : State) :
    (sendReply r s).pending = s.pending ∧ (sendReply r s).clock = s.clock ∧ (sendReply r s).epoch = s.epoch ∧
      (sendReply r s).draws = s.draws ∧ (sendReply r s).phase = s.phase ∧
      (sendReply r s).ring.ownAddress = s.ring.ownAddress ∧ (sendReply r s).ring.rate = s.ring.rate ∧
      (sendReply r s).ring.relayQueue = s.ring.relayQueue ∧ (sendReply r s).ring.runCount = s.ring.runCount ∧
      (sendReply r s).ring.relayed = s.ring.relayed ∧ (sendReply r s).ring.badCheck = s.ring.badCheck ∧
      (sendReply r s).ring.hopExpiry = s.ring.hopExpiry ∧ (sendReply r s).ring.relayFull = s.ring.relayFull ∧
      (sendReply r s).ring.ringSilent = s.ring.ringSilent ∧ (sendReply r s).ring.silenceTimer = s.ring.silenceTimer ∧
      (sendReply r s).ring.portB = s.ring.portB ∧ (sendReply r s).nodes = s.nodes ∧
      (sendReply r s).delivery = s.delivery ∧ (sendReply r s).air = s.air ∧ (sendReply r s).fans = s.fans ∧
      (sendReply r s).guide = s.guide ∧ (sendReply r s).light = s.light ∧ (sendReply r s).faults = s.faults ∧
      (sendReply r s).fire = s.fire ∧ (sendReply r s).mgmt.queue = s.mgmt.queue ∧
      (sendReply r s).mgmt.cursor = s.mgmt.cursor ∧ (sendReply r s).mgmt.storeSender = s.mgmt.storeSender ∧
      (sendReply r s).mgmt.proxySender = s.mgmt.proxySender ∧
      (sendReply r s).mgmt.restartPending = s.mgmt.restartPending ∧ (sendReply r s).tables = s.tables ∧
      (sendReply r s).store = s.store := by
  simp only [sendReply]
  repeat' split
  all_goals simp

/-- What `giveRoomTo` leaves as it is. -/
@[simp] theorem giveRoomTo_frame (cs : List Claim) (s : State) :
    (giveRoomTo cs s).pending = s.pending ∧ (giveRoomTo cs s).clock = s.clock ∧ (giveRoomTo cs s).epoch = s.epoch ∧
      (giveRoomTo cs s).draws = s.draws ∧ (giveRoomTo cs s).phase = s.phase ∧
      (giveRoomTo cs s).ring.ownAddress = s.ring.ownAddress ∧ (giveRoomTo cs s).ring.rate = s.ring.rate ∧
      (giveRoomTo cs s).ring.relayQueue = s.ring.relayQueue ∧ (giveRoomTo cs s).ring.runCount = s.ring.runCount ∧
      (giveRoomTo cs s).ring.relayed = s.ring.relayed ∧ (giveRoomTo cs s).ring.badCheck = s.ring.badCheck ∧
      (giveRoomTo cs s).ring.hopExpiry = s.ring.hopExpiry ∧ (giveRoomTo cs s).ring.relayFull = s.ring.relayFull ∧
      (giveRoomTo cs s).ring.ringSilent = s.ring.ringSilent ∧
      (giveRoomTo cs s).ring.silenceTimer = s.ring.silenceTimer ∧ (giveRoomTo cs s).ring.portB = s.ring.portB ∧
      (giveRoomTo cs s).nodes = s.nodes ∧ (giveRoomTo cs s).delivery.tagCounter = s.delivery.tagCounter ∧
      (giveRoomTo cs s).delivery.noTake = s.delivery.noTake ∧ (giveRoomTo cs s).air = s.air ∧
      (giveRoomTo cs s).fans = s.fans ∧ (giveRoomTo cs s).guide = s.guide ∧ (giveRoomTo cs s).light = s.light ∧
      (giveRoomTo cs s).faults.list = s.faults.list ∧ (giveRoomTo cs s).faults.flags = s.faults.flags ∧
      (giveRoomTo cs s).faults.alert = s.faults.alert ∧ (giveRoomTo cs s).faults.gasHigh = s.faults.gasHigh ∧
      (giveRoomTo cs s).faults.shortfall = s.faults.shortfall ∧ (giveRoomTo cs s).faults.risen = s.faults.risen ∧
      (giveRoomTo cs s).faults.noticeNumber = s.faults.noticeNumber ∧ (giveRoomTo cs s).fire = s.fire ∧
      (giveRoomTo cs s).mgmt.queue = s.mgmt.queue ∧ (giveRoomTo cs s).mgmt.cursor = s.mgmt.cursor ∧
      (giveRoomTo cs s).mgmt.storeSender = s.mgmt.storeSender ∧
      (giveRoomTo cs s).mgmt.proxySender = s.mgmt.proxySender ∧
      (giveRoomTo cs s).mgmt.restartPending = s.mgmt.restartPending ∧ (giveRoomTo cs s).tables = s.tables ∧
      (giveRoomTo cs s).store = s.store := by
  induction cs generalizing s with
  | nil => simp [giveRoomTo]
  | cons c cs ih => simp only [giveRoomTo]; (repeat' split) <;> simp [ih]

/-- What `giveRoom` leaves as it is. -/
@[simp] theorem giveRoom_frame  (s : State) :
    (giveRoom s).pending = s.pending ∧ (giveRoom s).clock = s.clock ∧ (giveRoom s).epoch = s.epoch ∧
      (giveRoom s).draws = s.draws ∧ (giveRoom s).phase = s.phase ∧
      (giveRoom s).ring.ownAddress = s.ring.ownAddress ∧ (giveRoom s).ring.rate = s.ring.rate ∧
      (giveRoom s).ring.relayQueue = s.ring.relayQueue ∧ (giveRoom s).ring.runCount = s.ring.runCount ∧
      (giveRoom s).ring.relayed = s.ring.relayed ∧ (giveRoom s).ring.badCheck = s.ring.badCheck ∧
      (giveRoom s).ring.hopExpiry = s.ring.hopExpiry ∧ (giveRoom s).ring.relayFull = s.ring.relayFull ∧
      (giveRoom s).ring.ringSilent = s.ring.ringSilent ∧ (giveRoom s).ring.silenceTimer = s.ring.silenceTimer ∧
      (giveRoom s).ring.portB = s.ring.portB ∧ (giveRoom s).nodes = s.nodes ∧
      (giveRoom s).delivery.tagCounter = s.delivery.tagCounter ∧ (giveRoom s).delivery.noTake = s.delivery.noTake ∧
      (giveRoom s).air = s.air ∧ (giveRoom s).fans = s.fans ∧ (giveRoom s).guide = s.guide ∧
      (giveRoom s).light = s.light ∧ (giveRoom s).faults.list = s.faults.list ∧
      (giveRoom s).faults.flags = s.faults.flags ∧ (giveRoom s).faults.alert = s.faults.alert ∧
      (giveRoom s).faults.gasHigh = s.faults.gasHigh ∧ (giveRoom s).faults.shortfall = s.faults.shortfall ∧
      (giveRoom s).faults.risen = s.faults.risen ∧ (giveRoom s).faults.noticeNumber = s.faults.noticeNumber ∧
      (giveRoom s).fire = s.fire ∧ (giveRoom s).mgmt.queue = s.mgmt.queue ∧
      (giveRoom s).mgmt.cursor = s.mgmt.cursor ∧ (giveRoom s).mgmt.storeSender = s.mgmt.storeSender ∧
      (giveRoom s).mgmt.proxySender = s.mgmt.proxySender ∧ (giveRoom s).mgmt.restartPending = s.mgmt.restartPending ∧
      (giveRoom s).tables = s.tables ∧ (giveRoom s).store = s.store := by
  simp only [giveRoom]
  repeat' split
  all_goals simp

/-- What `offerRecord` leaves as it is. -/
@[simp] theorem offerRecord_frame (a : Actuator) (s : State) :
    (offerRecord a s).pending = s.pending ∧ (offerRecord a s).clock = s.clock ∧ (offerRecord a s).epoch = s.epoch ∧
      (offerRecord a s).draws = s.draws ∧ (offerRecord a s).phase = s.phase ∧
      (offerRecord a s).ring.ownAddress = s.ring.ownAddress ∧ (offerRecord a s).ring.rate = s.ring.rate ∧
      (offerRecord a s).ring.relayQueue = s.ring.relayQueue ∧ (offerRecord a s).ring.runCount = s.ring.runCount ∧
      (offerRecord a s).ring.relayed = s.ring.relayed ∧ (offerRecord a s).ring.badCheck = s.ring.badCheck ∧
      (offerRecord a s).ring.hopExpiry = s.ring.hopExpiry ∧ (offerRecord a s).ring.relayFull = s.ring.relayFull ∧
      (offerRecord a s).ring.ringSilent = s.ring.ringSilent ∧
      (offerRecord a s).ring.silenceTimer = s.ring.silenceTimer ∧ (offerRecord a s).ring.portB = s.ring.portB ∧
      (offerRecord a s).nodes = s.nodes ∧ (offerRecord a s).delivery.tagCounter = s.delivery.tagCounter ∧
      (offerRecord a s).delivery.proxy = s.delivery.proxy ∧ (offerRecord a s).delivery.noTake = s.delivery.noTake ∧
      (offerRecord a s).air = s.air ∧ (offerRecord a s).fans = s.fans ∧ (offerRecord a s).guide = s.guide ∧
      (offerRecord a s).light = s.light ∧ (offerRecord a s).faults = s.faults ∧ (offerRecord a s).fire = s.fire ∧
      (offerRecord a s).mgmt = s.mgmt ∧ (offerRecord a s).tables = s.tables ∧ (offerRecord a s).store = s.store := by
  simp only [offerRecord]
  repeat' split
  all_goals simp

/-- What `setDesired` leaves as it is. -/
@[simp] theorem setDesired_frame (a : Actuator) (x : Setting) (s : State) :
    (setDesired a x s).pending = s.pending ∧ (setDesired a x s).clock = s.clock ∧
      (setDesired a x s).epoch = s.epoch ∧ (setDesired a x s).draws = s.draws ∧ (setDesired a x s).phase = s.phase ∧
      (setDesired a x s).ring.ownAddress = s.ring.ownAddress ∧ (setDesired a x s).ring.rate = s.ring.rate ∧
      (setDesired a x s).ring.relayQueue = s.ring.relayQueue ∧ (setDesired a x s).ring.runCount = s.ring.runCount ∧
      (setDesired a x s).ring.relayed = s.ring.relayed ∧ (setDesired a x s).ring.badCheck = s.ring.badCheck ∧
      (setDesired a x s).ring.hopExpiry = s.ring.hopExpiry ∧ (setDesired a x s).ring.relayFull = s.ring.relayFull ∧
      (setDesired a x s).ring.ringSilent = s.ring.ringSilent ∧
      (setDesired a x s).ring.silenceTimer = s.ring.silenceTimer ∧ (setDesired a x s).ring.portB = s.ring.portB ∧
      (setDesired a x s).nodes = s.nodes ∧ (setDesired a x s).delivery.tagCounter = s.delivery.tagCounter ∧
      (setDesired a x s).delivery.proxy = s.delivery.proxy ∧ (setDesired a x s).delivery.noTake = s.delivery.noTake ∧
      (setDesired a x s).air = s.air ∧ (setDesired a x s).fans = s.fans ∧ (setDesired a x s).guide = s.guide ∧
      (setDesired a x s).light = s.light ∧ (setDesired a x s).faults = s.faults ∧ (setDesired a x s).fire = s.fire ∧
      (setDesired a x s).mgmt = s.mgmt ∧ (setDesired a x s).tables = s.tables ∧
      (setDesired a x s).store = s.store := by
  simp only [setDesired]
  repeat' split
  all_goals simp

/-- What `withdraw` leaves as it is. -/
@[simp] theorem withdraw_frame (a : Actuator) (s : State) :
    (withdraw a s).pending = s.pending ∧ (withdraw a s).clock = s.clock ∧ (withdraw a s).epoch = s.epoch ∧
      (withdraw a s).draws = s.draws ∧ (withdraw a s).phase = s.phase ∧
      (withdraw a s).ring.ownAddress = s.ring.ownAddress ∧ (withdraw a s).ring.rate = s.ring.rate ∧
      (withdraw a s).ring.relayQueue = s.ring.relayQueue ∧ (withdraw a s).ring.runCount = s.ring.runCount ∧
      (withdraw a s).ring.relayed = s.ring.relayed ∧ (withdraw a s).ring.badCheck = s.ring.badCheck ∧
      (withdraw a s).ring.hopExpiry = s.ring.hopExpiry ∧ (withdraw a s).ring.relayFull = s.ring.relayFull ∧
      (withdraw a s).ring.ringSilent = s.ring.ringSilent ∧ (withdraw a s).ring.silenceTimer = s.ring.silenceTimer ∧
      (withdraw a s).ring.portB = s.ring.portB ∧ (withdraw a s).nodes = s.nodes ∧
      (withdraw a s).delivery.tagCounter = s.delivery.tagCounter ∧
      (withdraw a s).delivery.noTake = s.delivery.noTake ∧ (withdraw a s).air = s.air ∧
      (withdraw a s).fans = s.fans ∧ (withdraw a s).guide = s.guide ∧ (withdraw a s).light = s.light ∧
      (withdraw a s).faults.list = s.faults.list ∧ (withdraw a s).faults.flags = s.faults.flags ∧
      (withdraw a s).faults.alert = s.faults.alert ∧ (withdraw a s).faults.gasHigh = s.faults.gasHigh ∧
      (withdraw a s).faults.shortfall = s.faults.shortfall ∧ (withdraw a s).faults.risen = s.faults.risen ∧
      (withdraw a s).faults.noticeNumber = s.faults.noticeNumber ∧ (withdraw a s).fire = s.fire ∧
      (withdraw a s).mgmt.queue = s.mgmt.queue ∧ (withdraw a s).mgmt.cursor = s.mgmt.cursor ∧
      (withdraw a s).mgmt.storeSender = s.mgmt.storeSender ∧ (withdraw a s).mgmt.proxySender = s.mgmt.proxySender ∧
      (withdraw a s).mgmt.restartPending = s.mgmt.restartPending ∧ (withdraw a s).tables = s.tables ∧
      (withdraw a s).store = s.store := by
  simp only [withdraw]
  repeat' split
  all_goals simp

/-- What `startRecord` leaves as it is. -/
@[simp] theorem startRecord_frame (a : Actuator) (x : Setting) (dest tag : Nat) (s : State) :
    (startRecord a x dest tag s).pending = s.pending ∧ (startRecord a x dest tag s).clock = s.clock ∧
      (startRecord a x dest tag s).epoch = s.epoch ∧ (startRecord a x dest tag s).draws = s.draws ∧
      (startRecord a x dest tag s).phase = s.phase ∧ (startRecord a x dest tag s).ring = s.ring ∧
      (startRecord a x dest tag s).nodes = s.nodes ∧ (startRecord a x dest tag s).delivery.proxy = s.delivery.proxy ∧
      (startRecord a x dest tag s).delivery.noTake = s.delivery.noTake ∧ (startRecord a x dest tag s).air = s.air ∧
      (startRecord a x dest tag s).fans = s.fans ∧ (startRecord a x dest tag s).guide = s.guide ∧
      (startRecord a x dest tag s).light = s.light ∧ (startRecord a x dest tag s).faults = s.faults ∧
      (startRecord a x dest tag s).fire = s.fire ∧ (startRecord a x dest tag s).mgmt = s.mgmt ∧
      (startRecord a x dest tag s).tables = s.tables ∧ (startRecord a x dest tag s).store = s.store := by
  simp [startRecord]

/-- What `startProxy` leaves as it is. -/
@[simp] theorem startProxy_frame (tag : Nat) (s : State) :
    (startProxy tag s).pending = s.pending ∧ (startProxy tag s).clock = s.clock ∧
      (startProxy tag s).epoch = s.epoch ∧ (startProxy tag s).draws = s.draws ∧ (startProxy tag s).phase = s.phase ∧
      (startProxy tag s).ring = s.ring ∧ (startProxy tag s).nodes = s.nodes ∧
      (startProxy tag s).delivery.fans = s.delivery.fans ∧ (startProxy tag s).delivery.groups = s.delivery.groups ∧
      (startProxy tag s).delivery.signs = s.delivery.signs ∧ (startProxy tag s).delivery.noTake = s.delivery.noTake ∧
      (startProxy tag s).air = s.air ∧ (startProxy tag s).fans = s.fans ∧ (startProxy tag s).guide = s.guide ∧
      (startProxy tag s).light = s.light ∧ (startProxy tag s).faults = s.faults ∧ (startProxy tag s).fire = s.fire ∧
      (startProxy tag s).mgmt = s.mgmt ∧ (startProxy tag s).tables = s.tables ∧
      (startProxy tag s).store = s.store := by
  simp [startProxy]

/-- What `judgeAlert` leaves as it is. -/
@[simp] theorem judgeAlert_frame  (s : State) :
    (judgeAlert s).pending = s.pending ∧ (judgeAlert s).clock = s.clock ∧ (judgeAlert s).epoch = s.epoch ∧
      (judgeAlert s).draws = s.draws ∧ (judgeAlert s).phase = s.phase ∧ (judgeAlert s).ring = s.ring ∧
      (judgeAlert s).nodes = s.nodes ∧ (judgeAlert s).delivery = s.delivery ∧ (judgeAlert s).air = s.air ∧
      (judgeAlert s).fans = s.fans ∧ (judgeAlert s).guide = s.guide ∧ (judgeAlert s).light = s.light ∧
      (judgeAlert s).faults.list = s.faults.list ∧ (judgeAlert s).faults.flags = s.faults.flags ∧
      (judgeAlert s).faults.gasHigh = s.faults.gasHigh ∧ (judgeAlert s).faults.shortfall = s.faults.shortfall ∧
      (judgeAlert s).faults.risen = s.faults.risen ∧ (judgeAlert s).faults.notice = s.faults.notice ∧
      (judgeAlert s).faults.noticeNumber = s.faults.noticeNumber ∧ (judgeAlert s).fire = s.fire ∧
      (judgeAlert s).mgmt = s.mgmt ∧ (judgeAlert s).tables = s.tables ∧ (judgeAlert s).store = s.store := by
  simp [judgeAlert]

/-- What `offerNotice` leaves as it is. -/
@[simp] theorem offerNotice_frame  (s : State) :
    (offerNotice s).pending = s.pending ∧ (offerNotice s).clock = s.clock ∧ (offerNotice s).epoch = s.epoch ∧
      (offerNotice s).draws = s.draws ∧ (offerNotice s).phase = s.phase ∧
      (offerNotice s).ring.ownAddress = s.ring.ownAddress ∧ (offerNotice s).ring.rate = s.ring.rate ∧
      (offerNotice s).ring.relayQueue = s.ring.relayQueue ∧ (offerNotice s).ring.runCount = s.ring.runCount ∧
      (offerNotice s).ring.relayed = s.ring.relayed ∧ (offerNotice s).ring.badCheck = s.ring.badCheck ∧
      (offerNotice s).ring.hopExpiry = s.ring.hopExpiry ∧ (offerNotice s).ring.relayFull = s.ring.relayFull ∧
      (offerNotice s).ring.ringSilent = s.ring.ringSilent ∧ (offerNotice s).ring.silenceTimer = s.ring.silenceTimer ∧
      (offerNotice s).ring.portB = s.ring.portB ∧ (offerNotice s).nodes = s.nodes ∧
      (offerNotice s).delivery = s.delivery ∧ (offerNotice s).air = s.air ∧ (offerNotice s).fans = s.fans ∧
      (offerNotice s).guide = s.guide ∧ (offerNotice s).light = s.light ∧
      (offerNotice s).faults.list = s.faults.list ∧ (offerNotice s).faults.flags = s.faults.flags ∧
      (offerNotice s).faults.alert = s.faults.alert ∧ (offerNotice s).faults.gasHigh = s.faults.gasHigh ∧
      (offerNotice s).faults.shortfall = s.faults.shortfall ∧ (offerNotice s).faults.risen = s.faults.risen ∧
      (offerNotice s).faults.noticeNumber = s.faults.noticeNumber ∧ (offerNotice s).fire = s.fire ∧
      (offerNotice s).mgmt = s.mgmt ∧ (offerNotice s).tables = s.tables ∧ (offerNotice s).store = s.store := by
  simp only [offerNotice]
  repeat' split
  all_goals simp

/-- What `noticeRise` leaves as it is. -/
@[simp] theorem noticeRise_frame (f : Flag) (s : State) :
    (noticeRise f s).pending = s.pending ∧ (noticeRise f s).clock = s.clock ∧ (noticeRise f s).epoch = s.epoch ∧
      (noticeRise f s).draws = s.draws ∧ (noticeRise f s).phase = s.phase ∧
      (noticeRise f s).ring.ownAddress = s.ring.ownAddress ∧ (noticeRise f s).ring.rate = s.ring.rate ∧
      (noticeRise f s).ring.relayQueue = s.ring.relayQueue ∧ (noticeRise f s).ring.runCount = s.ring.runCount ∧
      (noticeRise f s).ring.relayed = s.ring.relayed ∧ (noticeRise f s).ring.badCheck = s.ring.badCheck ∧
      (noticeRise f s).ring.hopExpiry = s.ring.hopExpiry ∧ (noticeRise f s).ring.relayFull = s.ring.relayFull ∧
      (noticeRise f s).ring.ringSilent = s.ring.ringSilent ∧
      (noticeRise f s).ring.silenceTimer = s.ring.silenceTimer ∧ (noticeRise f s).ring.portB = s.ring.portB ∧
      (noticeRise f s).nodes = s.nodes ∧ (noticeRise f s).delivery = s.delivery ∧ (noticeRise f s).air = s.air ∧
      (noticeRise f s).fans = s.fans ∧ (noticeRise f s).guide = s.guide ∧ (noticeRise f s).light = s.light ∧
      (noticeRise f s).faults.list = s.faults.list ∧ (noticeRise f s).faults.flags = s.faults.flags ∧
      (noticeRise f s).faults.alert = s.faults.alert ∧ (noticeRise f s).faults.gasHigh = s.faults.gasHigh ∧
      (noticeRise f s).faults.shortfall = s.faults.shortfall ∧
      (noticeRise f s).faults.noticeNumber = s.faults.noticeNumber ∧ (noticeRise f s).fire = s.fire ∧
      (noticeRise f s).mgmt = s.mgmt ∧ (noticeRise f s).tables = s.tables ∧ (noticeRise f s).store = s.store := by
  simp [noticeRise]

/-- What `raiseFlag` leaves as it is. -/
@[simp] theorem raiseFlag_frame (f : Flag) (s : State) :
    (raiseFlag f s).pending = s.pending ∧ (raiseFlag f s).clock = s.clock ∧ (raiseFlag f s).epoch = s.epoch ∧
      (raiseFlag f s).draws = s.draws ∧ (raiseFlag f s).phase = s.phase ∧
      (raiseFlag f s).ring.ownAddress = s.ring.ownAddress ∧ (raiseFlag f s).ring.rate = s.ring.rate ∧
      (raiseFlag f s).ring.relayQueue = s.ring.relayQueue ∧ (raiseFlag f s).ring.runCount = s.ring.runCount ∧
      (raiseFlag f s).ring.relayed = s.ring.relayed ∧ (raiseFlag f s).ring.badCheck = s.ring.badCheck ∧
      (raiseFlag f s).ring.hopExpiry = s.ring.hopExpiry ∧ (raiseFlag f s).ring.relayFull = s.ring.relayFull ∧
      (raiseFlag f s).ring.ringSilent = s.ring.ringSilent ∧ (raiseFlag f s).ring.silenceTimer = s.ring.silenceTimer ∧
      (raiseFlag f s).ring.portB = s.ring.portB ∧ (raiseFlag f s).nodes = s.nodes ∧
      (raiseFlag f s).delivery = s.delivery ∧ (raiseFlag f s).air = s.air ∧ (raiseFlag f s).fans = s.fans ∧
      (raiseFlag f s).guide = s.guide ∧ (raiseFlag f s).light = s.light ∧
      (raiseFlag f s).faults.list = s.faults.list ∧ (raiseFlag f s).faults.gasHigh = s.faults.gasHigh ∧
      (raiseFlag f s).faults.shortfall = s.faults.shortfall ∧
      (raiseFlag f s).faults.noticeNumber = s.faults.noticeNumber ∧ (raiseFlag f s).fire = s.fire ∧
      (raiseFlag f s).mgmt = s.mgmt ∧ (raiseFlag f s).tables = s.tables ∧ (raiseFlag f s).store = s.store := by
  simp only [raiseFlag]
  repeat' split
  all_goals simp

/-- What `startNotice` leaves as it is. -/
@[simp] theorem startNotice_frame  (s : State) :
    (startNotice s).pending = s.pending ∧ (startNotice s).clock = s.clock ∧ (startNotice s).epoch = s.epoch ∧
      (startNotice s).draws = s.draws ∧ (startNotice s).phase = s.phase ∧ (startNotice s).ring = s.ring ∧
      (startNotice s).nodes = s.nodes ∧ (startNotice s).delivery = s.delivery ∧ (startNotice s).air = s.air ∧
      (startNotice s).fans = s.fans ∧ (startNotice s).guide = s.guide ∧ (startNotice s).light = s.light ∧
      (startNotice s).faults.list = s.faults.list ∧ (startNotice s).faults.flags = s.faults.flags ∧
      (startNotice s).faults.alert = s.faults.alert ∧ (startNotice s).faults.gasHigh = s.faults.gasHigh ∧
      (startNotice s).faults.shortfall = s.faults.shortfall ∧ (startNotice s).fire = s.fire ∧
      (startNotice s).mgmt = s.mgmt ∧ (startNotice s).tables = s.tables ∧ (startNotice s).store = s.store := by
  simp [startNotice]

/-- What `ackFlag` leaves as it is. -/
@[simp] theorem ackFlag_frame (f : Flag) (s : State) :
    (ackFlag s f).pending = s.pending ∧ (ackFlag s f).clock = s.clock ∧ (ackFlag s f).epoch = s.epoch ∧
      (ackFlag s f).draws = s.draws ∧ (ackFlag s f).phase = s.phase ∧ (ackFlag s f).ring = s.ring ∧
      (ackFlag s f).nodes = s.nodes ∧ (ackFlag s f).delivery = s.delivery ∧ (ackFlag s f).air = s.air ∧
      (ackFlag s f).fans = s.fans ∧ (ackFlag s f).guide = s.guide ∧ (ackFlag s f).light = s.light ∧
      (ackFlag s f).faults.list = s.faults.list ∧ (ackFlag s f).faults.alert = s.faults.alert ∧
      (ackFlag s f).faults.gasHigh = s.faults.gasHigh ∧ (ackFlag s f).faults.shortfall = s.faults.shortfall ∧
      (ackFlag s f).faults.risen = s.faults.risen ∧ (ackFlag s f).faults.notice = s.faults.notice ∧
      (ackFlag s f).faults.noticeNumber = s.faults.noticeNumber ∧ (ackFlag s f).fire = s.fire ∧
      (ackFlag s f).mgmt = s.mgmt ∧ (ackFlag s f).tables = s.tables ∧ (ackFlag s f).store = s.store := by
  simp only [ackFlag]
  repeat' split
  all_goals simp

/-- What `sendSign` leaves as it is. -/
@[simp] theorem sendSign_frame (i : Nat) (x : SignSetting) (s : State) :
    (sendSign i x s).pending = s.pending ∧ (sendSign i x s).clock = s.clock ∧ (sendSign i x s).epoch = s.epoch ∧
      (sendSign i x s).draws = s.draws ∧ (sendSign i x s).phase = s.phase ∧
      (sendSign i x s).ring.ownAddress = s.ring.ownAddress ∧ (sendSign i x s).ring.rate = s.ring.rate ∧
      (sendSign i x s).ring.relayQueue = s.ring.relayQueue ∧ (sendSign i x s).ring.runCount = s.ring.runCount ∧
      (sendSign i x s).ring.relayed = s.ring.relayed ∧ (sendSign i x s).ring.badCheck = s.ring.badCheck ∧
      (sendSign i x s).ring.hopExpiry = s.ring.hopExpiry ∧ (sendSign i x s).ring.relayFull = s.ring.relayFull ∧
      (sendSign i x s).ring.ringSilent = s.ring.ringSilent ∧
      (sendSign i x s).ring.silenceTimer = s.ring.silenceTimer ∧ (sendSign i x s).ring.portB = s.ring.portB ∧
      (sendSign i x s).nodes = s.nodes ∧ (sendSign i x s).delivery.tagCounter = s.delivery.tagCounter ∧
      (sendSign i x s).delivery.proxy = s.delivery.proxy ∧ (sendSign i x s).delivery.noTake = s.delivery.noTake ∧
      (sendSign i x s).air = s.air ∧ (sendSign i x s).fans = s.fans ∧ (sendSign i x s).guide.bays = s.guide.bays ∧
      (sendSign i x s).guide.rowFree = s.guide.rowFree ∧ (sendSign i x s).guide.levels = s.guide.levels ∧
      (sendSign i x s).guide.clusterFault = s.guide.clusterFault ∧ (sendSign i x s).light = s.light ∧
      (sendSign i x s).faults = s.faults ∧ (sendSign i x s).fire = s.fire ∧ (sendSign i x s).mgmt = s.mgmt ∧
      (sendSign i x s).tables = s.tables ∧ (sendSign i x s).store = s.store := by
  simp [sendSign]

/-- What `offerSign` leaves as it is. -/
@[simp] theorem offerSign_frame (i : Nat) (x : SignSetting) (s : State) :
    (offerSign i x s).pending = s.pending ∧ (offerSign i x s).clock = s.clock ∧ (offerSign i x s).epoch = s.epoch ∧
      (offerSign i x s).draws = s.draws ∧ (offerSign i x s).phase = s.phase ∧
      (offerSign i x s).ring.ownAddress = s.ring.ownAddress ∧ (offerSign i x s).ring.rate = s.ring.rate ∧
      (offerSign i x s).ring.relayQueue = s.ring.relayQueue ∧ (offerSign i x s).ring.runCount = s.ring.runCount ∧
      (offerSign i x s).ring.relayed = s.ring.relayed ∧ (offerSign i x s).ring.badCheck = s.ring.badCheck ∧
      (offerSign i x s).ring.hopExpiry = s.ring.hopExpiry ∧ (offerSign i x s).ring.relayFull = s.ring.relayFull ∧
      (offerSign i x s).ring.ringSilent = s.ring.ringSilent ∧
      (offerSign i x s).ring.silenceTimer = s.ring.silenceTimer ∧ (offerSign i x s).ring.portB = s.ring.portB ∧
      (offerSign i x s).nodes = s.nodes ∧ (offerSign i x s).delivery.tagCounter = s.delivery.tagCounter ∧
      (offerSign i x s).delivery.proxy = s.delivery.proxy ∧ (offerSign i x s).delivery.noTake = s.delivery.noTake ∧
      (offerSign i x s).air = s.air ∧ (offerSign i x s).fans = s.fans ∧ (offerSign i x s).guide.bays = s.guide.bays ∧
      (offerSign i x s).guide.rowFree = s.guide.rowFree ∧ (offerSign i x s).guide.levels = s.guide.levels ∧
      (offerSign i x s).guide.clusterFault = s.guide.clusterFault ∧ (offerSign i x s).light = s.light ∧
      (offerSign i x s).faults = s.faults ∧ (offerSign i x s).fire = s.fire ∧ (offerSign i x s).mgmt = s.mgmt ∧
      (offerSign i x s).tables = s.tables ∧ (offerSign i x s).store = s.store := by
  simp only [offerSign]
  repeat' split
  all_goals simp

/-- What `computeSign` leaves as it is. -/
@[simp] theorem computeSign_frame (i : Nat) (s : State) :
    (computeSign i s).pending = s.pending ∧ (computeSign i s).clock = s.clock ∧ (computeSign i s).epoch = s.epoch ∧
      (computeSign i s).draws = s.draws ∧ (computeSign i s).phase = s.phase ∧
      (computeSign i s).ring.ownAddress = s.ring.ownAddress ∧ (computeSign i s).ring.rate = s.ring.rate ∧
      (computeSign i s).ring.relayQueue = s.ring.relayQueue ∧ (computeSign i s).ring.runCount = s.ring.runCount ∧
      (computeSign i s).ring.relayed = s.ring.relayed ∧ (computeSign i s).ring.badCheck = s.ring.badCheck ∧
      (computeSign i s).ring.hopExpiry = s.ring.hopExpiry ∧ (computeSign i s).ring.relayFull = s.ring.relayFull ∧
      (computeSign i s).ring.ringSilent = s.ring.ringSilent ∧
      (computeSign i s).ring.silenceTimer = s.ring.silenceTimer ∧ (computeSign i s).ring.portB = s.ring.portB ∧
      (computeSign i s).nodes = s.nodes ∧ (computeSign i s).delivery.tagCounter = s.delivery.tagCounter ∧
      (computeSign i s).delivery.proxy = s.delivery.proxy ∧ (computeSign i s).delivery.noTake = s.delivery.noTake ∧
      (computeSign i s).air = s.air ∧ (computeSign i s).fans = s.fans ∧ (computeSign i s).guide.bays = s.guide.bays ∧
      (computeSign i s).guide.rowFree = s.guide.rowFree ∧ (computeSign i s).guide.levels = s.guide.levels ∧
      (computeSign i s).guide.clusterFault = s.guide.clusterFault ∧ (computeSign i s).light = s.light ∧
      (computeSign i s).faults = s.faults ∧ (computeSign i s).fire = s.fire ∧ (computeSign i s).mgmt = s.mgmt ∧
      (computeSign i s).tables = s.tables ∧ (computeSign i s).store = s.store := by
  simp [computeSign]

/-- What `refreshSigns` leaves as it is. -/
@[simp] theorem refreshSigns_frame  (s : State) :
    (refreshSigns s).pending = s.pending ∧ (refreshSigns s).clock = s.clock ∧ (refreshSigns s).epoch = s.epoch ∧
      (refreshSigns s).draws = s.draws ∧ (refreshSigns s).phase = s.phase ∧
      (refreshSigns s).ring.ownAddress = s.ring.ownAddress ∧ (refreshSigns s).ring.rate = s.ring.rate ∧
      (refreshSigns s).ring.relayQueue = s.ring.relayQueue ∧ (refreshSigns s).ring.runCount = s.ring.runCount ∧
      (refreshSigns s).ring.relayed = s.ring.relayed ∧ (refreshSigns s).ring.badCheck = s.ring.badCheck ∧
      (refreshSigns s).ring.hopExpiry = s.ring.hopExpiry ∧ (refreshSigns s).ring.relayFull = s.ring.relayFull ∧
      (refreshSigns s).ring.ringSilent = s.ring.ringSilent ∧
      (refreshSigns s).ring.silenceTimer = s.ring.silenceTimer ∧ (refreshSigns s).ring.portB = s.ring.portB ∧
      (refreshSigns s).nodes = s.nodes ∧ (refreshSigns s).delivery.tagCounter = s.delivery.tagCounter ∧
      (refreshSigns s).delivery.proxy = s.delivery.proxy ∧ (refreshSigns s).delivery.noTake = s.delivery.noTake ∧
      (refreshSigns s).air = s.air ∧ (refreshSigns s).fans = s.fans ∧ (refreshSigns s).guide.bays = s.guide.bays ∧
      (refreshSigns s).guide.rowFree = s.guide.rowFree ∧ (refreshSigns s).guide.levels = s.guide.levels ∧
      (refreshSigns s).guide.clusterFault = s.guide.clusterFault ∧ (refreshSigns s).light = s.light ∧
      (refreshSigns s).faults = s.faults ∧ (refreshSigns s).fire = s.fire ∧ (refreshSigns s).mgmt = s.mgmt ∧
      (refreshSigns s).tables = s.tables ∧ (refreshSigns s).store = s.store := by
  unfold refreshSigns
  refine forEach_frame (R := fun a b =>
    b.pending = a.pending ∧ b.clock = a.clock ∧ b.epoch = a.epoch ∧ b.draws = a.draws ∧ b.phase = a.phase ∧
    b.ring.ownAddress = a.ring.ownAddress ∧ b.ring.rate = a.ring.rate ∧ b.ring.relayQueue = a.ring.relayQueue ∧
    b.ring.runCount = a.ring.runCount ∧ b.ring.relayed = a.ring.relayed ∧ b.ring.badCheck = a.ring.badCheck ∧
    b.ring.hopExpiry = a.ring.hopExpiry ∧ b.ring.relayFull = a.ring.relayFull ∧
    b.ring.ringSilent = a.ring.ringSilent ∧ b.ring.silenceTimer = a.ring.silenceTimer ∧
    b.ring.portB = a.ring.portB ∧ b.nodes = a.nodes ∧ b.delivery.tagCounter = a.delivery.tagCounter ∧
    b.delivery.proxy = a.delivery.proxy ∧ b.delivery.noTake = a.delivery.noTake ∧ b.air = a.air ∧ b.fans = a.fans ∧
    b.guide.bays = a.guide.bays ∧ b.guide.rowFree = a.guide.rowFree ∧ b.guide.levels = a.guide.levels ∧
    b.guide.clusterFault = a.guide.clusterFault ∧ b.light = a.light ∧ b.faults = a.faults ∧ b.fire = a.fire ∧
    b.mgmt = a.mgmt ∧ b.tables = a.tables ∧ b.store = a.store) ?_ ?_ ?_ _ _
  · intro t; simp
  · intro a b c h1 h2; simp_all
  · intro i t; simp

/-- What `forceSign` leaves as it is. -/
@[simp] theorem forceSign_frame (i : Nat) (s : State) :
    (forceSign i s).pending = s.pending ∧ (forceSign i s).clock = s.clock ∧ (forceSign i s).epoch = s.epoch ∧
      (forceSign i s).draws = s.draws ∧ (forceSign i s).phase = s.phase ∧
      (forceSign i s).ring.ownAddress = s.ring.ownAddress ∧ (forceSign i s).ring.rate = s.ring.rate ∧
      (forceSign i s).ring.relayQueue = s.ring.relayQueue ∧ (forceSign i s).ring.runCount = s.ring.runCount ∧
      (forceSign i s).ring.relayed = s.ring.relayed ∧ (forceSign i s).ring.badCheck = s.ring.badCheck ∧
      (forceSign i s).ring.hopExpiry = s.ring.hopExpiry ∧ (forceSign i s).ring.relayFull = s.ring.relayFull ∧
      (forceSign i s).ring.ringSilent = s.ring.ringSilent ∧ (forceSign i s).ring.silenceTimer = s.ring.silenceTimer ∧
      (forceSign i s).ring.portB = s.ring.portB ∧ (forceSign i s).nodes = s.nodes ∧
      (forceSign i s).delivery.tagCounter = s.delivery.tagCounter ∧
      (forceSign i s).delivery.proxy = s.delivery.proxy ∧ (forceSign i s).delivery.noTake = s.delivery.noTake ∧
      (forceSign i s).air = s.air ∧ (forceSign i s).fans = s.fans ∧ (forceSign i s).guide.bays = s.guide.bays ∧
      (forceSign i s).guide.rowFree = s.guide.rowFree ∧ (forceSign i s).guide.levels = s.guide.levels ∧
      (forceSign i s).guide.clusterFault = s.guide.clusterFault ∧ (forceSign i s).light = s.light ∧
      (forceSign i s).faults = s.faults ∧ (forceSign i s).fire = s.fire ∧ (forceSign i s).mgmt = s.mgmt ∧
      (forceSign i s).tables = s.tables ∧ (forceSign i s).store = s.store := by
  simp [forceSign]

/-- What `signService` leaves as it is. -/
@[simp] theorem signService_frame (i : Nat) (out : Bool) (s : State) :
    (signService i out s).pending = s.pending ∧ (signService i out s).clock = s.clock ∧
      (signService i out s).epoch = s.epoch ∧ (signService i out s).draws = s.draws ∧
      (signService i out s).phase = s.phase ∧ (signService i out s).ring.ownAddress = s.ring.ownAddress ∧
      (signService i out s).ring.rate = s.ring.rate ∧ (signService i out s).ring.relayQueue = s.ring.relayQueue ∧
      (signService i out s).ring.runCount = s.ring.runCount ∧ (signService i out s).ring.relayed = s.ring.relayed ∧
      (signService i out s).ring.badCheck = s.ring.badCheck ∧
      (signService i out s).ring.hopExpiry = s.ring.hopExpiry ∧
      (signService i out s).ring.relayFull = s.ring.relayFull ∧
      (signService i out s).ring.ringSilent = s.ring.ringSilent ∧
      (signService i out s).ring.silenceTimer = s.ring.silenceTimer ∧
      (signService i out s).ring.portB = s.ring.portB ∧ (signService i out s).nodes = s.nodes ∧
      (signService i out s).delivery.tagCounter = s.delivery.tagCounter ∧
      (signService i out s).delivery.noTake = s.delivery.noTake ∧ (signService i out s).air = s.air ∧
      (signService i out s).fans = s.fans ∧ (signService i out s).guide.bays = s.guide.bays ∧
      (signService i out s).guide.rowFree = s.guide.rowFree ∧ (signService i out s).guide.levels = s.guide.levels ∧
      (signService i out s).guide.clusterFault = s.guide.clusterFault ∧ (signService i out s).light = s.light ∧
      (signService i out s).faults.list = s.faults.list ∧ (signService i out s).faults.flags = s.faults.flags ∧
      (signService i out s).faults.alert = s.faults.alert ∧ (signService i out s).faults.gasHigh = s.faults.gasHigh ∧
      (signService i out s).faults.shortfall = s.faults.shortfall ∧
      (signService i out s).faults.risen = s.faults.risen ∧
      (signService i out s).faults.noticeNumber = s.faults.noticeNumber ∧ (signService i out s).fire = s.fire ∧
      (signService i out s).mgmt.queue = s.mgmt.queue ∧ (signService i out s).mgmt.cursor = s.mgmt.cursor ∧
      (signService i out s).mgmt.storeSender = s.mgmt.storeSender ∧
      (signService i out s).mgmt.proxySender = s.mgmt.proxySender ∧
      (signService i out s).mgmt.restartPending = s.mgmt.restartPending ∧ (signService i out s).tables = s.tables ∧
      (signService i out s).store = s.store := by
  simp only [signService]
  repeat' split
  all_goals simp

end Sys2Proof.Machine
end

