-- ==== Sys2Proof/Laws/FramesService.lean ====
section
/-! SUPPORT. Laws/FramesService.lean: what each operation of the fault list, the fans, the luminaire groups and the service states leaves as it is: one lemma an operation,
field by field of the state. -/

namespace Sys2Proof.Machine

/-- What `setList` leaves as it is. -/
@[simp] theorem setList_frame (l : List FaultRecord) (s : State) :
    (setList l s).pending = s.pending ∧ (setList l s).clock = s.clock ∧ (setList l s).epoch = s.epoch ∧
      (setList l s).draws = s.draws ∧ (setList l s).phase = s.phase ∧ (setList l s).ring = s.ring ∧
      (setList l s).nodes = s.nodes ∧ (setList l s).delivery = s.delivery ∧ (setList l s).air = s.air ∧
      (setList l s).fans = s.fans ∧ (setList l s).guide = s.guide ∧ (setList l s).light = s.light ∧
      (setList l s).faults.flags = s.faults.flags ∧ (setList l s).faults.alert = s.faults.alert ∧
      (setList l s).faults.gasHigh = s.faults.gasHigh ∧ (setList l s).faults.shortfall = s.faults.shortfall ∧
      (setList l s).faults.risen = s.faults.risen ∧ (setList l s).faults.notice = s.faults.notice ∧
      (setList l s).faults.noticeNumber = s.faults.noticeNumber ∧ (setList l s).fire = s.fire ∧
      (setList l s).mgmt = s.mgmt ∧ (setList l s).tables = s.tables ∧ (setList l s).store = s.store := by
  simp [setList]

/-- What `endCondition` leaves as it is. -/
@[simp] theorem endCondition_frame (c : FaultClass) (addr : Nat) (s : State) :
    (endCondition c addr s).pending = s.pending ∧ (endCondition c addr s).clock = s.clock ∧
      (endCondition c addr s).epoch = s.epoch ∧ (endCondition c addr s).draws = s.draws ∧
      (endCondition c addr s).phase = s.phase ∧ (endCondition c addr s).ring = s.ring ∧
      (endCondition c addr s).nodes = s.nodes ∧ (endCondition c addr s).delivery = s.delivery ∧
      (endCondition c addr s).air = s.air ∧ (endCondition c addr s).fans = s.fans ∧
      (endCondition c addr s).guide = s.guide ∧ (endCondition c addr s).light = s.light ∧
      (endCondition c addr s).faults.flags = s.faults.flags ∧ (endCondition c addr s).faults.alert = s.faults.alert ∧
      (endCondition c addr s).faults.gasHigh = s.faults.gasHigh ∧
      (endCondition c addr s).faults.shortfall = s.faults.shortfall ∧
      (endCondition c addr s).faults.risen = s.faults.risen ∧
      (endCondition c addr s).faults.notice = s.faults.notice ∧
      (endCondition c addr s).faults.noticeNumber = s.faults.noticeNumber ∧ (endCondition c addr s).fire = s.fire ∧
      (endCondition c addr s).mgmt = s.mgmt ∧ (endCondition c addr s).tables = s.tables ∧
      (endCondition c addr s).store = s.store := by
  simp [endCondition]

/-- What `modFan` leaves as it is. -/
@[simp] theorem modFan_frame (i : Nat) (f : FanRecord → FanRecord) (s : State) :
    (modFan i f s).pending = s.pending ∧ (modFan i f s).clock = s.clock ∧ (modFan i f s).epoch = s.epoch ∧
      (modFan i f s).draws = s.draws ∧ (modFan i f s).phase = s.phase ∧ (modFan i f s).ring = s.ring ∧
      (modFan i f s).nodes = s.nodes ∧ (modFan i f s).delivery = s.delivery ∧ (modFan i f s).air = s.air ∧
      (modFan i f s).guide = s.guide ∧ (modFan i f s).light = s.light ∧ (modFan i f s).faults = s.faults ∧
      (modFan i f s).fire = s.fire ∧ (modFan i f s).mgmt = s.mgmt ∧ (modFan i f s).tables = s.tables ∧
      (modFan i f s).store = s.store := by
  simp [modFan]

/-- What `clearTest` leaves as it is. -/
@[simp] theorem clearTest_frame (addr i : Nat) (t : FanTest) (s : State) :
    (clearTest addr i t s).pending = s.pending ∧ (clearTest addr i t s).clock = s.clock ∧
      (clearTest addr i t s).epoch = s.epoch ∧ (clearTest addr i t s).draws = s.draws ∧
      (clearTest addr i t s).phase = s.phase ∧ (clearTest addr i t s).ring = s.ring ∧
      (clearTest addr i t s).nodes = s.nodes ∧ (clearTest addr i t s).delivery = s.delivery ∧
      (clearTest addr i t s).air = s.air ∧ (clearTest addr i t s).guide = s.guide ∧
      (clearTest addr i t s).light = s.light ∧ (clearTest addr i t s).faults.flags = s.faults.flags ∧
      (clearTest addr i t s).faults.alert = s.faults.alert ∧
      (clearTest addr i t s).faults.gasHigh = s.faults.gasHigh ∧
      (clearTest addr i t s).faults.shortfall = s.faults.shortfall ∧
      (clearTest addr i t s).faults.risen = s.faults.risen ∧ (clearTest addr i t s).faults.notice = s.faults.notice ∧
      (clearTest addr i t s).faults.noticeNumber = s.faults.noticeNumber ∧ (clearTest addr i t s).fire = s.fire ∧
      (clearTest addr i t s).mgmt = s.mgmt ∧ (clearTest addr i t s).tables = s.tables ∧
      (clearTest addr i t s).store = s.store := by
  simp only [clearTest]
  repeat' split
  all_goals simp

/-- What `clearTests` leaves as it is. -/
@[simp] theorem clearTests_frame (addr i : Nat) (s : State) :
    (clearTests addr i s).pending = s.pending ∧ (clearTests addr i s).clock = s.clock ∧
      (clearTests addr i s).epoch = s.epoch ∧ (clearTests addr i s).draws = s.draws ∧
      (clearTests addr i s).phase = s.phase ∧ (clearTests addr i s).ring = s.ring ∧
      (clearTests addr i s).nodes = s.nodes ∧ (clearTests addr i s).delivery = s.delivery ∧
      (clearTests addr i s).air = s.air ∧ (clearTests addr i s).guide = s.guide ∧
      (clearTests addr i s).light = s.light ∧ (clearTests addr i s).faults.flags = s.faults.flags ∧
      (clearTests addr i s).faults.alert = s.faults.alert ∧ (clearTests addr i s).faults.gasHigh = s.faults.gasHigh ∧
      (clearTests addr i s).faults.shortfall = s.faults.shortfall ∧
      (clearTests addr i s).faults.risen = s.faults.risen ∧ (clearTests addr i s).faults.notice = s.faults.notice ∧
      (clearTests addr i s).faults.noticeNumber = s.faults.noticeNumber ∧ (clearTests addr i s).fire = s.fire ∧
      (clearTests addr i s).mgmt = s.mgmt ∧ (clearTests addr i s).tables = s.tables ∧
      (clearTests addr i s).store = s.store := by
  simp [clearTests]

/-- What `setFan` leaves as it is. -/
@[simp] theorem setFan_frame (i : Nat) (x : FanSetting) (s : State) :
    (setFan i x s).pending = s.pending ∧ (setFan i x s).clock = s.clock ∧ (setFan i x s).epoch = s.epoch ∧
      (setFan i x s).draws = s.draws ∧ (setFan i x s).phase = s.phase ∧
      (setFan i x s).ring.ownAddress = s.ring.ownAddress ∧ (setFan i x s).ring.rate = s.ring.rate ∧
      (setFan i x s).ring.relayQueue = s.ring.relayQueue ∧ (setFan i x s).ring.runCount = s.ring.runCount ∧
      (setFan i x s).ring.relayed = s.ring.relayed ∧ (setFan i x s).ring.badCheck = s.ring.badCheck ∧
      (setFan i x s).ring.hopExpiry = s.ring.hopExpiry ∧ (setFan i x s).ring.relayFull = s.ring.relayFull ∧
      (setFan i x s).ring.ringSilent = s.ring.ringSilent ∧ (setFan i x s).ring.silenceTimer = s.ring.silenceTimer ∧
      (setFan i x s).ring.portB = s.ring.portB ∧ (setFan i x s).nodes = s.nodes ∧
      (setFan i x s).delivery.tagCounter = s.delivery.tagCounter ∧ (setFan i x s).delivery.proxy = s.delivery.proxy ∧
      (setFan i x s).delivery.noTake = s.delivery.noTake ∧ (setFan i x s).air = s.air ∧
      (setFan i x s).guide = s.guide ∧ (setFan i x s).light = s.light ∧
      (setFan i x s).faults.flags = s.faults.flags ∧ (setFan i x s).faults.alert = s.faults.alert ∧
      (setFan i x s).faults.gasHigh = s.faults.gasHigh ∧ (setFan i x s).faults.shortfall = s.faults.shortfall ∧
      (setFan i x s).faults.risen = s.faults.risen ∧ (setFan i x s).faults.notice = s.faults.notice ∧
      (setFan i x s).faults.noticeNumber = s.faults.noticeNumber ∧ (setFan i x s).fire = s.fire ∧
      (setFan i x s).mgmt = s.mgmt ∧ (setFan i x s).tables = s.tables ∧ (setFan i x s).store = s.store := by
  simp only [setFan]
  repeat' split
  all_goals simp

/-- What `stopFan` leaves as it is. -/
@[simp] theorem stopFan_frame (i : Nat) (s : State) :
    (stopFan i s).pending = s.pending ∧ (stopFan i s).clock = s.clock ∧ (stopFan i s).epoch = s.epoch ∧
      (stopFan i s).draws = s.draws ∧ (stopFan i s).phase = s.phase ∧
      (stopFan i s).ring.ownAddress = s.ring.ownAddress ∧ (stopFan i s).ring.rate = s.ring.rate ∧
      (stopFan i s).ring.relayQueue = s.ring.relayQueue ∧ (stopFan i s).ring.runCount = s.ring.runCount ∧
      (stopFan i s).ring.relayed = s.ring.relayed ∧ (stopFan i s).ring.badCheck = s.ring.badCheck ∧
      (stopFan i s).ring.hopExpiry = s.ring.hopExpiry ∧ (stopFan i s).ring.relayFull = s.ring.relayFull ∧
      (stopFan i s).ring.ringSilent = s.ring.ringSilent ∧ (stopFan i s).ring.silenceTimer = s.ring.silenceTimer ∧
      (stopFan i s).ring.portB = s.ring.portB ∧ (stopFan i s).nodes = s.nodes ∧
      (stopFan i s).delivery.tagCounter = s.delivery.tagCounter ∧ (stopFan i s).delivery.proxy = s.delivery.proxy ∧
      (stopFan i s).delivery.noTake = s.delivery.noTake ∧ (stopFan i s).air = s.air ∧ (stopFan i s).guide = s.guide ∧
      (stopFan i s).light = s.light ∧ (stopFan i s).faults.flags = s.faults.flags ∧
      (stopFan i s).faults.alert = s.faults.alert ∧ (stopFan i s).faults.gasHigh = s.faults.gasHigh ∧
      (stopFan i s).faults.shortfall = s.faults.shortfall ∧ (stopFan i s).faults.risen = s.faults.risen ∧
      (stopFan i s).faults.notice = s.faults.notice ∧ (stopFan i s).faults.noticeNumber = s.faults.noticeNumber ∧
      (stopFan i s).fire = s.fire ∧ (stopFan i s).mgmt = s.mgmt ∧ (stopFan i s).tables = s.tables ∧
      (stopFan i s).store = s.store := by
  simp [stopFan]

/-- What `releaseFan` leaves as it is. -/
@[simp] theorem releaseFan_frame (i : Nat) (s : State) :
    (releaseFan i s).pending = s.pending ∧ (releaseFan i s).clock = s.clock ∧ (releaseFan i s).epoch = s.epoch ∧
      (releaseFan i s).draws = s.draws ∧ (releaseFan i s).phase = s.phase ∧
      (releaseFan i s).ring.ownAddress = s.ring.ownAddress ∧ (releaseFan i s).ring.rate = s.ring.rate ∧
      (releaseFan i s).ring.relayQueue = s.ring.relayQueue ∧ (releaseFan i s).ring.runCount = s.ring.runCount ∧
      (releaseFan i s).ring.relayed = s.ring.relayed ∧ (releaseFan i s).ring.badCheck = s.ring.badCheck ∧
      (releaseFan i s).ring.hopExpiry = s.ring.hopExpiry ∧ (releaseFan i s).ring.relayFull = s.ring.relayFull ∧
      (releaseFan i s).ring.ringSilent = s.ring.ringSilent ∧
      (releaseFan i s).ring.silenceTimer = s.ring.silenceTimer ∧ (releaseFan i s).ring.portB = s.ring.portB ∧
      (releaseFan i s).nodes = s.nodes ∧ (releaseFan i s).delivery.tagCounter = s.delivery.tagCounter ∧
      (releaseFan i s).delivery.noTake = s.delivery.noTake ∧ (releaseFan i s).air = s.air ∧
      (releaseFan i s).guide = s.guide ∧ (releaseFan i s).light = s.light ∧
      (releaseFan i s).faults.list = s.faults.list ∧ (releaseFan i s).faults.flags = s.faults.flags ∧
      (releaseFan i s).faults.alert = s.faults.alert ∧ (releaseFan i s).faults.gasHigh = s.faults.gasHigh ∧
      (releaseFan i s).faults.shortfall = s.faults.shortfall ∧ (releaseFan i s).faults.risen = s.faults.risen ∧
      (releaseFan i s).faults.noticeNumber = s.faults.noticeNumber ∧ (releaseFan i s).fire = s.fire ∧
      (releaseFan i s).mgmt.queue = s.mgmt.queue ∧ (releaseFan i s).mgmt.cursor = s.mgmt.cursor ∧
      (releaseFan i s).mgmt.storeSender = s.mgmt.storeSender ∧
      (releaseFan i s).mgmt.proxySender = s.mgmt.proxySender ∧
      (releaseFan i s).mgmt.restartPending = s.mgmt.restartPending ∧ (releaseFan i s).tables = s.tables ∧
      (releaseFan i s).store = s.store := by
  simp [releaseFan]

/-- What `applyAction` leaves as it is. -/
@[simp] theorem applyAction_frame (i : Nat) (a : Action) (s : State) :
    (applyAction i a s).pending = s.pending ∧ (applyAction i a s).clock = s.clock ∧
      (applyAction i a s).epoch = s.epoch ∧ (applyAction i a s).draws = s.draws ∧
      (applyAction i a s).phase = s.phase ∧ (applyAction i a s).ring.ownAddress = s.ring.ownAddress ∧
      (applyAction i a s).ring.rate = s.ring.rate ∧ (applyAction i a s).ring.relayQueue = s.ring.relayQueue ∧
      (applyAction i a s).ring.runCount = s.ring.runCount ∧ (applyAction i a s).ring.relayed = s.ring.relayed ∧
      (applyAction i a s).ring.badCheck = s.ring.badCheck ∧ (applyAction i a s).ring.hopExpiry = s.ring.hopExpiry ∧
      (applyAction i a s).ring.relayFull = s.ring.relayFull ∧
      (applyAction i a s).ring.ringSilent = s.ring.ringSilent ∧
      (applyAction i a s).ring.silenceTimer = s.ring.silenceTimer ∧ (applyAction i a s).ring.portB = s.ring.portB ∧
      (applyAction i a s).nodes = s.nodes ∧ (applyAction i a s).delivery.tagCounter = s.delivery.tagCounter ∧
      (applyAction i a s).delivery.noTake = s.delivery.noTake ∧ (applyAction i a s).air = s.air ∧
      (applyAction i a s).guide = s.guide ∧ (applyAction i a s).light = s.light ∧
      (applyAction i a s).faults.flags = s.faults.flags ∧ (applyAction i a s).faults.alert = s.faults.alert ∧
      (applyAction i a s).faults.gasHigh = s.faults.gasHigh ∧
      (applyAction i a s).faults.shortfall = s.faults.shortfall ∧ (applyAction i a s).faults.risen = s.faults.risen ∧
      (applyAction i a s).faults.noticeNumber = s.faults.noticeNumber ∧ (applyAction i a s).fire = s.fire ∧
      (applyAction i a s).mgmt.queue = s.mgmt.queue ∧ (applyAction i a s).mgmt.cursor = s.mgmt.cursor ∧
      (applyAction i a s).mgmt.storeSender = s.mgmt.storeSender ∧
      (applyAction i a s).mgmt.proxySender = s.mgmt.proxySender ∧
      (applyAction i a s).mgmt.restartPending = s.mgmt.restartPending ∧ (applyAction i a s).tables = s.tables ∧
      (applyAction i a s).store = s.store := by
  simp only [applyAction]
  repeat' split
  all_goals simp

/-- What `fanService` leaves as it is. -/
@[simp] theorem fanService_frame (i : Nat) (new : Service) (s : State) :
    (fanService i new s).pending = s.pending ∧ (fanService i new s).clock = s.clock ∧
      (fanService i new s).epoch = s.epoch ∧ (fanService i new s).draws = s.draws ∧
      (fanService i new s).phase = s.phase ∧ (fanService i new s).ring.ownAddress = s.ring.ownAddress ∧
      (fanService i new s).ring.rate = s.ring.rate ∧ (fanService i new s).ring.relayQueue = s.ring.relayQueue ∧
      (fanService i new s).ring.runCount = s.ring.runCount ∧ (fanService i new s).ring.relayed = s.ring.relayed ∧
      (fanService i new s).ring.badCheck = s.ring.badCheck ∧ (fanService i new s).ring.hopExpiry = s.ring.hopExpiry ∧
      (fanService i new s).ring.relayFull = s.ring.relayFull ∧
      (fanService i new s).ring.ringSilent = s.ring.ringSilent ∧
      (fanService i new s).ring.silenceTimer = s.ring.silenceTimer ∧ (fanService i new s).ring.portB = s.ring.portB ∧
      (fanService i new s).nodes = s.nodes ∧ (fanService i new s).delivery.tagCounter = s.delivery.tagCounter ∧
      (fanService i new s).delivery.noTake = s.delivery.noTake ∧ (fanService i new s).air = s.air ∧
      (fanService i new s).guide = s.guide ∧ (fanService i new s).light = s.light ∧
      (fanService i new s).faults.flags = s.faults.flags ∧ (fanService i new s).faults.alert = s.faults.alert ∧
      (fanService i new s).faults.gasHigh = s.faults.gasHigh ∧
      (fanService i new s).faults.shortfall = s.faults.shortfall ∧
      (fanService i new s).faults.risen = s.faults.risen ∧
      (fanService i new s).faults.noticeNumber = s.faults.noticeNumber ∧ (fanService i new s).fire = s.fire ∧
      (fanService i new s).mgmt.queue = s.mgmt.queue ∧ (fanService i new s).mgmt.cursor = s.mgmt.cursor ∧
      (fanService i new s).mgmt.storeSender = s.mgmt.storeSender ∧
      (fanService i new s).mgmt.proxySender = s.mgmt.proxySender ∧
      (fanService i new s).mgmt.restartPending = s.mgmt.restartPending ∧ (fanService i new s).tables = s.tables ∧
      (fanService i new s).store = s.store := by
  simp only [fanService]
  repeat' split
  all_goals simp

/-- What `setPlanSetting` leaves as it is. -/
@[simp] theorem setPlanSetting_frame (i : Nat) (s : State) :
    (setPlanSetting i s).pending = s.pending ∧ (setPlanSetting i s).clock = s.clock ∧
      (setPlanSetting i s).epoch = s.epoch ∧ (setPlanSetting i s).draws = s.draws ∧
      (setPlanSetting i s).phase = s.phase ∧ (setPlanSetting i s).ring.ownAddress = s.ring.ownAddress ∧
      (setPlanSetting i s).ring.rate = s.ring.rate ∧ (setPlanSetting i s).ring.relayQueue = s.ring.relayQueue ∧
      (setPlanSetting i s).ring.runCount = s.ring.runCount ∧ (setPlanSetting i s).ring.relayed = s.ring.relayed ∧
      (setPlanSetting i s).ring.badCheck = s.ring.badCheck ∧ (setPlanSetting i s).ring.hopExpiry = s.ring.hopExpiry ∧
      (setPlanSetting i s).ring.relayFull = s.ring.relayFull ∧
      (setPlanSetting i s).ring.ringSilent = s.ring.ringSilent ∧
      (setPlanSetting i s).ring.silenceTimer = s.ring.silenceTimer ∧ (setPlanSetting i s).ring.portB = s.ring.portB ∧
      (setPlanSetting i s).nodes = s.nodes ∧ (setPlanSetting i s).delivery.tagCounter = s.delivery.tagCounter ∧
      (setPlanSetting i s).delivery.proxy = s.delivery.proxy ∧
      (setPlanSetting i s).delivery.noTake = s.delivery.noTake ∧ (setPlanSetting i s).air = s.air ∧
      (setPlanSetting i s).guide = s.guide ∧ (setPlanSetting i s).light = s.light ∧
      (setPlanSetting i s).faults.flags = s.faults.flags ∧ (setPlanSetting i s).faults.alert = s.faults.alert ∧
      (setPlanSetting i s).faults.gasHigh = s.faults.gasHigh ∧
      (setPlanSetting i s).faults.shortfall = s.faults.shortfall ∧
      (setPlanSetting i s).faults.risen = s.faults.risen ∧ (setPlanSetting i s).faults.notice = s.faults.notice ∧
      (setPlanSetting i s).faults.noticeNumber = s.faults.noticeNumber ∧ (setPlanSetting i s).fire = s.fire ∧
      (setPlanSetting i s).mgmt = s.mgmt ∧ (setPlanSetting i s).tables = s.tables ∧
      (setPlanSetting i s).store = s.store := by
  simp [setPlanSetting]

/-- What `holdFan` leaves as it is. -/
@[simp] theorem holdFan_frame (i : Nat) (s : State) :
    (holdFan i s).pending = s.pending ∧ (holdFan i s).clock = s.clock ∧ (holdFan i s).epoch = s.epoch ∧
      (holdFan i s).draws = s.draws ∧ (holdFan i s).phase = s.phase ∧
      (holdFan i s).ring.ownAddress = s.ring.ownAddress ∧ (holdFan i s).ring.rate = s.ring.rate ∧
      (holdFan i s).ring.relayQueue = s.ring.relayQueue ∧ (holdFan i s).ring.runCount = s.ring.runCount ∧
      (holdFan i s).ring.relayed = s.ring.relayed ∧ (holdFan i s).ring.badCheck = s.ring.badCheck ∧
      (holdFan i s).ring.hopExpiry = s.ring.hopExpiry ∧ (holdFan i s).ring.relayFull = s.ring.relayFull ∧
      (holdFan i s).ring.ringSilent = s.ring.ringSilent ∧ (holdFan i s).ring.silenceTimer = s.ring.silenceTimer ∧
      (holdFan i s).ring.portB = s.ring.portB ∧ (holdFan i s).nodes = s.nodes ∧
      (holdFan i s).delivery.tagCounter = s.delivery.tagCounter ∧ (holdFan i s).delivery.proxy = s.delivery.proxy ∧
      (holdFan i s).delivery.noTake = s.delivery.noTake ∧ (holdFan i s).air = s.air ∧ (holdFan i s).guide = s.guide ∧
      (holdFan i s).light = s.light ∧ (holdFan i s).faults.flags = s.faults.flags ∧
      (holdFan i s).faults.alert = s.faults.alert ∧ (holdFan i s).faults.gasHigh = s.faults.gasHigh ∧
      (holdFan i s).faults.shortfall = s.faults.shortfall ∧ (holdFan i s).faults.risen = s.faults.risen ∧
      (holdFan i s).faults.notice = s.faults.notice ∧ (holdFan i s).faults.noticeNumber = s.faults.noticeNumber ∧
      (holdFan i s).fire.latch = s.fire.latch ∧ (holdFan i s).fire.plan = s.fire.plan ∧
      (holdFan i s).fire.planLock = s.fire.planLock ∧ (holdFan i s).fire.fireIn = s.fire.fireIn ∧
      (holdFan i s).fire.fireHeld = s.fire.fireHeld ∧ (holdFan i s).fire.keysw = s.fire.keysw ∧
      (holdFan i s).mgmt = s.mgmt ∧ (holdFan i s).tables = s.tables ∧ (holdFan i s).store = s.store := by
  simp only [holdFan]
  repeat' split
  all_goals simp

/-- What `unholdFan` leaves as it is. -/
@[simp] theorem unholdFan_frame (i : Nat) (s : State) :
    (unholdFan i s).pending = s.pending ∧ (unholdFan i s).clock = s.clock ∧ (unholdFan i s).epoch = s.epoch ∧
      (unholdFan i s).draws = s.draws ∧ (unholdFan i s).phase = s.phase ∧
      (unholdFan i s).ring.ownAddress = s.ring.ownAddress ∧ (unholdFan i s).ring.rate = s.ring.rate ∧
      (unholdFan i s).ring.relayQueue = s.ring.relayQueue ∧ (unholdFan i s).ring.runCount = s.ring.runCount ∧
      (unholdFan i s).ring.relayed = s.ring.relayed ∧ (unholdFan i s).ring.badCheck = s.ring.badCheck ∧
      (unholdFan i s).ring.hopExpiry = s.ring.hopExpiry ∧ (unholdFan i s).ring.relayFull = s.ring.relayFull ∧
      (unholdFan i s).ring.ringSilent = s.ring.ringSilent ∧ (unholdFan i s).ring.silenceTimer = s.ring.silenceTimer ∧
      (unholdFan i s).ring.portB = s.ring.portB ∧ (unholdFan i s).nodes = s.nodes ∧
      (unholdFan i s).delivery.tagCounter = s.delivery.tagCounter ∧
      (unholdFan i s).delivery.noTake = s.delivery.noTake ∧ (unholdFan i s).air = s.air ∧
      (unholdFan i s).guide = s.guide ∧ (unholdFan i s).light = s.light ∧
      (unholdFan i s).faults.flags = s.faults.flags ∧ (unholdFan i s).faults.alert = s.faults.alert ∧
      (unholdFan i s).faults.gasHigh = s.faults.gasHigh ∧ (unholdFan i s).faults.shortfall = s.faults.shortfall ∧
      (unholdFan i s).faults.risen = s.faults.risen ∧ (unholdFan i s).faults.noticeNumber = s.faults.noticeNumber ∧
      (unholdFan i s).fire = s.fire ∧ (unholdFan i s).mgmt.queue = s.mgmt.queue ∧
      (unholdFan i s).mgmt.cursor = s.mgmt.cursor ∧ (unholdFan i s).mgmt.storeSender = s.mgmt.storeSender ∧
      (unholdFan i s).mgmt.proxySender = s.mgmt.proxySender ∧
      (unholdFan i s).mgmt.restartPending = s.mgmt.restartPending ∧ (unholdFan i s).tables = s.tables ∧
      (unholdFan i s).store = s.store := by
  simp only [unholdFan]
  repeat' split
  all_goals simp

/-- What `stopTestTimers` leaves as it is. -/
@[simp] theorem stopTestTimers_frame (i : Nat) (s : State) :
    (stopTestTimers i s).pending = s.pending ∧ (stopTestTimers i s).clock = s.clock ∧
      (stopTestTimers i s).epoch = s.epoch ∧ (stopTestTimers i s).draws = s.draws ∧
      (stopTestTimers i s).phase = s.phase ∧ (stopTestTimers i s).ring = s.ring ∧
      (stopTestTimers i s).nodes = s.nodes ∧ (stopTestTimers i s).delivery = s.delivery ∧
      (stopTestTimers i s).air = s.air ∧ (stopTestTimers i s).guide = s.guide ∧
      (stopTestTimers i s).light = s.light ∧ (stopTestTimers i s).faults = s.faults ∧
      (stopTestTimers i s).fire = s.fire ∧ (stopTestTimers i s).mgmt = s.mgmt ∧
      (stopTestTimers i s).tables = s.tables ∧ (stopTestTimers i s).store = s.store := by
  simp [stopTestTimers]

/-- What `modGroup` leaves as it is. -/
@[simp] theorem modGroup_frame (i : Nat) (f : GroupRecord → GroupRecord) (s : State) :
    (modGroup i f s).pending = s.pending ∧ (modGroup i f s).clock = s.clock ∧ (modGroup i f s).epoch = s.epoch ∧
      (modGroup i f s).draws = s.draws ∧ (modGroup i f s).phase = s.phase ∧ (modGroup i f s).ring = s.ring ∧
      (modGroup i f s).nodes = s.nodes ∧ (modGroup i f s).delivery = s.delivery ∧ (modGroup i f s).air = s.air ∧
      (modGroup i f s).fans = s.fans ∧ (modGroup i f s).guide = s.guide ∧
      (modGroup i f s).light.stepTimer = s.light.stepTimer ∧ (modGroup i f s).faults = s.faults ∧
      (modGroup i f s).fire = s.fire ∧ (modGroup i f s).mgmt = s.mgmt ∧ (modGroup i f s).tables = s.tables ∧
      (modGroup i f s).store = s.store := by
  simp [modGroup]

/-- What `setCauses` leaves as it is. -/
@[simp] theorem setCauses_frame (i : Nat) (c : Causes) (s : State) :
    (setCauses i c s).pending = s.pending ∧ (setCauses i c s).clock = s.clock ∧ (setCauses i c s).epoch = s.epoch ∧
      (setCauses i c s).draws = s.draws ∧ (setCauses i c s).phase = s.phase ∧ (setCauses i c s).ring = s.ring ∧
      (setCauses i c s).nodes = s.nodes ∧ (setCauses i c s).delivery = s.delivery ∧ (setCauses i c s).air = s.air ∧
      (setCauses i c s).fans = s.fans ∧ (setCauses i c s).guide = s.guide ∧
      (setCauses i c s).light.stepTimer = s.light.stepTimer ∧ (setCauses i c s).faults = s.faults ∧
      (setCauses i c s).fire = s.fire ∧ (setCauses i c s).mgmt = s.mgmt ∧ (setCauses i c s).tables = s.tables ∧
      (setCauses i c s).store = s.store := by
  simp [setCauses]

/-- What `presenceEvent` leaves as it is. -/
@[simp] theorem presenceEvent_frame (i : Nat) (s : State) :
    (presenceEvent i s).pending = s.pending ∧ (presenceEvent i s).clock = s.clock ∧
      (presenceEvent i s).epoch = s.epoch ∧ (presenceEvent i s).draws = s.draws ∧
      (presenceEvent i s).phase = s.phase ∧ (presenceEvent i s).ring = s.ring ∧ (presenceEvent i s).nodes = s.nodes ∧
      (presenceEvent i s).delivery = s.delivery ∧ (presenceEvent i s).air = s.air ∧
      (presenceEvent i s).fans = s.fans ∧ (presenceEvent i s).guide = s.guide ∧
      (presenceEvent i s).light.stepTimer = s.light.stepTimer ∧ (presenceEvent i s).faults = s.faults ∧
      (presenceEvent i s).fire = s.fire ∧ (presenceEvent i s).mgmt = s.mgmt ∧ (presenceEvent i s).tables = s.tables ∧
      (presenceEvent i s).store = s.store := by
  simp [presenceEvent]

/-- What `triggerGroups` leaves as it is. -/
@[simp] theorem triggerGroups_frame (x : Trigger) (s : State) :
    (triggerGroups x s).pending = s.pending ∧ (triggerGroups x s).clock = s.clock ∧
      (triggerGroups x s).epoch = s.epoch ∧ (triggerGroups x s).draws = s.draws ∧
      (triggerGroups x s).phase = s.phase ∧ (triggerGroups x s).ring = s.ring ∧ (triggerGroups x s).nodes = s.nodes ∧
      (triggerGroups x s).delivery = s.delivery ∧ (triggerGroups x s).air = s.air ∧
      (triggerGroups x s).fans = s.fans ∧ (triggerGroups x s).guide = s.guide ∧
      (triggerGroups x s).light.stepTimer = s.light.stepTimer ∧ (triggerGroups x s).faults = s.faults ∧
      (triggerGroups x s).fire = s.fire ∧ (triggerGroups x s).mgmt = s.mgmt ∧ (triggerGroups x s).tables = s.tables ∧
      (triggerGroups x s).store = s.store := by
  unfold triggerGroups
  refine forEach_frame (R := fun a b =>
    b.pending = a.pending ∧ b.clock = a.clock ∧ b.epoch = a.epoch ∧ b.draws = a.draws ∧ b.phase = a.phase ∧
    b.ring = a.ring ∧ b.nodes = a.nodes ∧ b.delivery = a.delivery ∧ b.air = a.air ∧ b.fans = a.fans ∧
    b.guide = a.guide ∧ b.light.stepTimer = a.light.stepTimer ∧ b.faults = a.faults ∧ b.fire = a.fire ∧
    b.mgmt = a.mgmt ∧ b.tables = a.tables ∧ b.store = a.store) ?_ ?_ ?_ _ _
  · intro t; simp
  · intro a b c h1 h2; simp_all
  · intro i t; split <;> simp

/-- What `holdExpired` leaves as it is. -/
@[simp] theorem holdExpired_frame (i : Nat) (s : State) :
    (holdExpired i s).pending = s.pending ∧ (holdExpired i s).clock = s.clock ∧ (holdExpired i s).epoch = s.epoch ∧
      (holdExpired i s).draws = s.draws ∧ (holdExpired i s).phase = s.phase ∧ (holdExpired i s).ring = s.ring ∧
      (holdExpired i s).nodes = s.nodes ∧ (holdExpired i s).delivery = s.delivery ∧ (holdExpired i s).air = s.air ∧
      (holdExpired i s).fans = s.fans ∧ (holdExpired i s).guide = s.guide ∧
      (holdExpired i s).light.stepTimer = s.light.stepTimer ∧ (holdExpired i s).faults = s.faults ∧
      (holdExpired i s).fire = s.fire ∧ (holdExpired i s).mgmt = s.mgmt ∧ (holdExpired i s).tables = s.tables ∧
      (holdExpired i s).store = s.store := by
  simp [holdExpired]

/-- What `lightShortfall` leaves as it is. -/
@[simp] theorem lightShortfall_frame (z : Nat) (s : State) :
    (lightShortfall z s).pending = s.pending ∧ (lightShortfall z s).clock = s.clock ∧
      (lightShortfall z s).epoch = s.epoch ∧ (lightShortfall z s).draws = s.draws ∧
      (lightShortfall z s).phase = s.phase ∧ (lightShortfall z s).ring = s.ring ∧
      (lightShortfall z s).nodes = s.nodes ∧ (lightShortfall z s).delivery = s.delivery ∧
      (lightShortfall z s).air = s.air ∧ (lightShortfall z s).fans = s.fans ∧ (lightShortfall z s).guide = s.guide ∧
      (lightShortfall z s).light.stepTimer = s.light.stepTimer ∧ (lightShortfall z s).faults = s.faults ∧
      (lightShortfall z s).fire = s.fire ∧ (lightShortfall z s).mgmt = s.mgmt ∧
      (lightShortfall z s).tables = s.tables ∧ (lightShortfall z s).store = s.store := by
  unfold lightShortfall
  refine forEach_frame (R := fun a b =>
    b.pending = a.pending ∧ b.clock = a.clock ∧ b.epoch = a.epoch ∧ b.draws = a.draws ∧ b.phase = a.phase ∧
    b.ring = a.ring ∧ b.nodes = a.nodes ∧ b.delivery = a.delivery ∧ b.air = a.air ∧ b.fans = a.fans ∧
    b.guide = a.guide ∧ b.light.stepTimer = a.light.stepTimer ∧ b.faults = a.faults ∧ b.fire = a.fire ∧
    b.mgmt = a.mgmt ∧ b.tables = a.tables ∧ b.store = a.store) ?_ ?_ ?_ _ _
  · intro t; simp
  · intro a b c h1 h2; simp_all
  · intro i t; split <;> simp

/-- What `lightAir` leaves as it is. -/
@[simp] theorem lightAir_frame (z : Nat) (s : State) :
    (lightAir z s).pending = s.pending ∧ (lightAir z s).clock = s.clock ∧ (lightAir z s).epoch = s.epoch ∧
      (lightAir z s).draws = s.draws ∧ (lightAir z s).phase = s.phase ∧ (lightAir z s).ring = s.ring ∧
      (lightAir z s).nodes = s.nodes ∧ (lightAir z s).delivery = s.delivery ∧ (lightAir z s).air = s.air ∧
      (lightAir z s).fans = s.fans ∧ (lightAir z s).guide = s.guide ∧
      (lightAir z s).light.stepTimer = s.light.stepTimer ∧ (lightAir z s).faults = s.faults ∧
      (lightAir z s).fire = s.fire ∧ (lightAir z s).mgmt = s.mgmt ∧ (lightAir z s).tables = s.tables ∧
      (lightAir z s).store = s.store := by
  unfold lightAir
  refine forEach_frame (R := fun a b =>
    b.pending = a.pending ∧ b.clock = a.clock ∧ b.epoch = a.epoch ∧ b.draws = a.draws ∧ b.phase = a.phase ∧
    b.ring = a.ring ∧ b.nodes = a.nodes ∧ b.delivery = a.delivery ∧ b.air = a.air ∧ b.fans = a.fans ∧
    b.guide = a.guide ∧ b.light.stepTimer = a.light.stepTimer ∧ b.faults = a.faults ∧ b.fire = a.fire ∧
    b.mgmt = a.mgmt ∧ b.tables = a.tables ∧ b.store = a.store) ?_ ?_ ?_ _ _
  · intro t; simp
  · intro a b c h1 h2; simp_all
  · intro i t; split <;> simp

/-- What `judgeGroupZone` leaves as it is. -/
@[simp] theorem judgeGroupZone_frame (i : Nat) (s : State) :
    (judgeGroupZone i s).pending = s.pending ∧ (judgeGroupZone i s).clock = s.clock ∧
      (judgeGroupZone i s).epoch = s.epoch ∧ (judgeGroupZone i s).draws = s.draws ∧
      (judgeGroupZone i s).phase = s.phase ∧ (judgeGroupZone i s).ring = s.ring ∧
      (judgeGroupZone i s).nodes = s.nodes ∧ (judgeGroupZone i s).delivery = s.delivery ∧
      (judgeGroupZone i s).air = s.air ∧ (judgeGroupZone i s).fans = s.fans ∧ (judgeGroupZone i s).guide = s.guide ∧
      (judgeGroupZone i s).light.stepTimer = s.light.stepTimer ∧ (judgeGroupZone i s).faults = s.faults ∧
      (judgeGroupZone i s).fire = s.fire ∧ (judgeGroupZone i s).mgmt = s.mgmt ∧
      (judgeGroupZone i s).tables = s.tables ∧ (judgeGroupZone i s).store = s.store := by
  simp [judgeGroupZone]

/-- What `lightFire` leaves as it is. -/
@[simp] theorem lightFire_frame (on : Bool) (s : State) :
    (lightFire on s).pending = s.pending ∧ (lightFire on s).clock = s.clock ∧ (lightFire on s).epoch = s.epoch ∧
      (lightFire on s).draws = s.draws ∧ (lightFire on s).phase = s.phase ∧ (lightFire on s).ring = s.ring ∧
      (lightFire on s).nodes = s.nodes ∧ (lightFire on s).delivery = s.delivery ∧ (lightFire on s).air = s.air ∧
      (lightFire on s).fans = s.fans ∧ (lightFire on s).guide = s.guide ∧
      (lightFire on s).light.stepTimer = s.light.stepTimer ∧ (lightFire on s).faults = s.faults ∧
      (lightFire on s).fire = s.fire ∧ (lightFire on s).mgmt = s.mgmt ∧ (lightFire on s).tables = s.tables ∧
      (lightFire on s).store = s.store := by
  unfold lightFire
  refine forEach_frame (R := fun a b =>
    b.pending = a.pending ∧ b.clock = a.clock ∧ b.epoch = a.epoch ∧ b.draws = a.draws ∧ b.phase = a.phase ∧
    b.ring = a.ring ∧ b.nodes = a.nodes ∧ b.delivery = a.delivery ∧ b.air = a.air ∧ b.fans = a.fans ∧
    b.guide = a.guide ∧ b.light.stepTimer = a.light.stepTimer ∧ b.faults = a.faults ∧ b.fire = a.fire ∧
    b.mgmt = a.mgmt ∧ b.tables = a.tables ∧ b.store = a.store) ?_ ?_ ?_ _ _
  · intro t; simp
  · intro a b c h1 h2; simp_all
  · intro i t; simp

/-- What `stepGroup` leaves as it is. -/
@[simp] theorem stepGroup_frame (i : Nat) (s : State) :
    (stepGroup i s).pending = s.pending ∧ (stepGroup i s).clock = s.clock ∧ (stepGroup i s).epoch = s.epoch ∧
      (stepGroup i s).draws = s.draws ∧ (stepGroup i s).phase = s.phase ∧
      (stepGroup i s).ring.ownAddress = s.ring.ownAddress ∧ (stepGroup i s).ring.rate = s.ring.rate ∧
      (stepGroup i s).ring.relayQueue = s.ring.relayQueue ∧ (stepGroup i s).ring.runCount = s.ring.runCount ∧
      (stepGroup i s).ring.relayed = s.ring.relayed ∧ (stepGroup i s).ring.badCheck = s.ring.badCheck ∧
      (stepGroup i s).ring.hopExpiry = s.ring.hopExpiry ∧ (stepGroup i s).ring.relayFull = s.ring.relayFull ∧
      (stepGroup i s).ring.ringSilent = s.ring.ringSilent ∧ (stepGroup i s).ring.silenceTimer = s.ring.silenceTimer ∧
      (stepGroup i s).ring.portB = s.ring.portB ∧ (stepGroup i s).nodes = s.nodes ∧
      (stepGroup i s).delivery.tagCounter = s.delivery.tagCounter ∧
      (stepGroup i s).delivery.proxy = s.delivery.proxy ∧ (stepGroup i s).delivery.noTake = s.delivery.noTake ∧
      (stepGroup i s).air = s.air ∧ (stepGroup i s).fans = s.fans ∧ (stepGroup i s).guide = s.guide ∧
      (stepGroup i s).light.stepTimer = s.light.stepTimer ∧ (stepGroup i s).faults = s.faults ∧
      (stepGroup i s).fire = s.fire ∧ (stepGroup i s).mgmt = s.mgmt ∧ (stepGroup i s).tables = s.tables ∧
      (stepGroup i s).store = s.store := by
  simp only [stepGroup]
  repeat' split
  all_goals simp

/-- What `clearLamp` leaves as it is. -/
@[simp] theorem clearLamp_frame (addr i : Nat) (s : State) :
    (clearLamp addr i s).pending = s.pending ∧ (clearLamp addr i s).clock = s.clock ∧
      (clearLamp addr i s).epoch = s.epoch ∧ (clearLamp addr i s).draws = s.draws ∧
      (clearLamp addr i s).phase = s.phase ∧ (clearLamp addr i s).ring = s.ring ∧
      (clearLamp addr i s).nodes = s.nodes ∧ (clearLamp addr i s).delivery = s.delivery ∧
      (clearLamp addr i s).air = s.air ∧ (clearLamp addr i s).fans = s.fans ∧ (clearLamp addr i s).guide = s.guide ∧
      (clearLamp addr i s).light.stepTimer = s.light.stepTimer ∧ (clearLamp addr i s).faults.flags = s.faults.flags ∧
      (clearLamp addr i s).faults.alert = s.faults.alert ∧ (clearLamp addr i s).faults.gasHigh = s.faults.gasHigh ∧
      (clearLamp addr i s).faults.shortfall = s.faults.shortfall ∧
      (clearLamp addr i s).faults.risen = s.faults.risen ∧ (clearLamp addr i s).faults.notice = s.faults.notice ∧
      (clearLamp addr i s).faults.noticeNumber = s.faults.noticeNumber ∧ (clearLamp addr i s).fire = s.fire ∧
      (clearLamp addr i s).mgmt = s.mgmt ∧ (clearLamp addr i s).tables = s.tables ∧
      (clearLamp addr i s).store = s.store := by
  simp only [clearLamp]
  repeat' split
  all_goals simp

/-- What `lampReport` leaves as it is. -/
@[simp] theorem lampReport_frame (i : Nat) (x : LampReport) (s : State) :
    (lampReport i x s).pending = s.pending ∧ (lampReport i x s).clock = s.clock ∧
      (lampReport i x s).epoch = s.epoch ∧ (lampReport i x s).draws = s.draws ∧ (lampReport i x s).phase = s.phase ∧
      (lampReport i x s).ring = s.ring ∧ (lampReport i x s).nodes = s.nodes ∧
      (lampReport i x s).delivery = s.delivery ∧ (lampReport i x s).air = s.air ∧ (lampReport i x s).fans = s.fans ∧
      (lampReport i x s).guide = s.guide ∧ (lampReport i x s).light.stepTimer = s.light.stepTimer ∧
      (lampReport i x s).faults.flags = s.faults.flags ∧ (lampReport i x s).faults.alert = s.faults.alert ∧
      (lampReport i x s).faults.gasHigh = s.faults.gasHigh ∧
      (lampReport i x s).faults.shortfall = s.faults.shortfall ∧ (lampReport i x s).faults.risen = s.faults.risen ∧
      (lampReport i x s).faults.notice = s.faults.notice ∧
      (lampReport i x s).faults.noticeNumber = s.faults.noticeNumber ∧ (lampReport i x s).fire = s.fire ∧
      (lampReport i x s).mgmt = s.mgmt ∧ (lampReport i x s).tables = s.tables ∧
      (lampReport i x s).store = s.store := by
  simp only [lampReport]
  repeat' split
  all_goals simp

/-- What `groupService` leaves as it is. -/
@[simp] theorem groupService_frame (i : Nat) (out : Bool) (s : State) :
    (groupService i out s).pending = s.pending ∧ (groupService i out s).clock = s.clock ∧
      (groupService i out s).epoch = s.epoch ∧ (groupService i out s).draws = s.draws ∧
      (groupService i out s).phase = s.phase ∧ (groupService i out s).ring = s.ring ∧
      (groupService i out s).nodes = s.nodes ∧ (groupService i out s).delivery = s.delivery ∧
      (groupService i out s).air = s.air ∧ (groupService i out s).fans = s.fans ∧
      (groupService i out s).guide = s.guide ∧ (groupService i out s).light.stepTimer = s.light.stepTimer ∧
      (groupService i out s).faults.flags = s.faults.flags ∧ (groupService i out s).faults.alert = s.faults.alert ∧
      (groupService i out s).faults.gasHigh = s.faults.gasHigh ∧
      (groupService i out s).faults.shortfall = s.faults.shortfall ∧
      (groupService i out s).faults.risen = s.faults.risen ∧ (groupService i out s).faults.notice = s.faults.notice ∧
      (groupService i out s).faults.noticeNumber = s.faults.noticeNumber ∧ (groupService i out s).fire = s.fire ∧
      (groupService i out s).mgmt = s.mgmt ∧ (groupService i out s).tables = s.tables ∧
      (groupService i out s).store = s.store := by
  simp only [groupService]
  repeat' split
  all_goals simp

/-- What `judgeEquipment` leaves as it is. -/
@[simp] theorem judgeEquipment_frame (k : NodeKind) (i : Nat) (s : State) :
    (judgeEquipment k i s).pending = s.pending ∧ (judgeEquipment k i s).clock = s.clock ∧
      (judgeEquipment k i s).epoch = s.epoch ∧ (judgeEquipment k i s).draws = s.draws ∧
      (judgeEquipment k i s).phase = s.phase ∧ (judgeEquipment k i s).ring.ownAddress = s.ring.ownAddress ∧
      (judgeEquipment k i s).ring.rate = s.ring.rate ∧ (judgeEquipment k i s).ring.relayQueue = s.ring.relayQueue ∧
      (judgeEquipment k i s).ring.runCount = s.ring.runCount ∧ (judgeEquipment k i s).ring.relayed = s.ring.relayed ∧
      (judgeEquipment k i s).ring.badCheck = s.ring.badCheck ∧
      (judgeEquipment k i s).ring.hopExpiry = s.ring.hopExpiry ∧
      (judgeEquipment k i s).ring.relayFull = s.ring.relayFull ∧
      (judgeEquipment k i s).ring.ringSilent = s.ring.ringSilent ∧
      (judgeEquipment k i s).ring.silenceTimer = s.ring.silenceTimer ∧
      (judgeEquipment k i s).ring.portB = s.ring.portB ∧ (judgeEquipment k i s).nodes = s.nodes ∧
      (judgeEquipment k i s).delivery.tagCounter = s.delivery.tagCounter ∧
      (judgeEquipment k i s).delivery.noTake = s.delivery.noTake ∧ (judgeEquipment k i s).air = s.air ∧
      (judgeEquipment k i s).guide.bays = s.guide.bays ∧ (judgeEquipment k i s).guide.rowFree = s.guide.rowFree ∧
      (judgeEquipment k i s).guide.levels = s.guide.levels ∧
      (judgeEquipment k i s).guide.clusterFault = s.guide.clusterFault ∧
      (judgeEquipment k i s).light.stepTimer = s.light.stepTimer ∧
      (judgeEquipment k i s).faults.flags = s.faults.flags ∧ (judgeEquipment k i s).faults.alert = s.faults.alert ∧
      (judgeEquipment k i s).faults.gasHigh = s.faults.gasHigh ∧
      (judgeEquipment k i s).faults.shortfall = s.faults.shortfall ∧
      (judgeEquipment k i s).faults.risen = s.faults.risen ∧
      (judgeEquipment k i s).faults.noticeNumber = s.faults.noticeNumber ∧ (judgeEquipment k i s).fire = s.fire ∧
      (judgeEquipment k i s).mgmt.queue = s.mgmt.queue ∧ (judgeEquipment k i s).mgmt.cursor = s.mgmt.cursor ∧
      (judgeEquipment k i s).mgmt.storeSender = s.mgmt.storeSender ∧
      (judgeEquipment k i s).mgmt.proxySender = s.mgmt.proxySender ∧
      (judgeEquipment k i s).mgmt.restartPending = s.mgmt.restartPending ∧ (judgeEquipment k i s).tables = s.tables ∧
      (judgeEquipment k i s).store = s.store := by
  simp only [judgeEquipment]
  repeat' split
  all_goals simp

/-- What `judgeAddress` leaves as it is. -/
@[simp] theorem judgeAddress_frame (addr : Nat) (s : State) :
    (judgeAddress addr s).pending = s.pending ∧ (judgeAddress addr s).clock = s.clock ∧
      (judgeAddress addr s).epoch = s.epoch ∧ (judgeAddress addr s).draws = s.draws ∧
      (judgeAddress addr s).phase = s.phase ∧ (judgeAddress addr s).ring.ownAddress = s.ring.ownAddress ∧
      (judgeAddress addr s).ring.rate = s.ring.rate ∧ (judgeAddress addr s).ring.relayQueue = s.ring.relayQueue ∧
      (judgeAddress addr s).ring.runCount = s.ring.runCount ∧ (judgeAddress addr s).ring.relayed = s.ring.relayed ∧
      (judgeAddress addr s).ring.badCheck = s.ring.badCheck ∧
      (judgeAddress addr s).ring.hopExpiry = s.ring.hopExpiry ∧
      (judgeAddress addr s).ring.relayFull = s.ring.relayFull ∧
      (judgeAddress addr s).ring.ringSilent = s.ring.ringSilent ∧
      (judgeAddress addr s).ring.silenceTimer = s.ring.silenceTimer ∧
      (judgeAddress addr s).ring.portB = s.ring.portB ∧ (judgeAddress addr s).nodes = s.nodes ∧
      (judgeAddress addr s).delivery.tagCounter = s.delivery.tagCounter ∧
      (judgeAddress addr s).delivery.noTake = s.delivery.noTake ∧ (judgeAddress addr s).air = s.air ∧
      (judgeAddress addr s).guide.bays = s.guide.bays ∧ (judgeAddress addr s).guide.rowFree = s.guide.rowFree ∧
      (judgeAddress addr s).guide.levels = s.guide.levels ∧
      (judgeAddress addr s).guide.clusterFault = s.guide.clusterFault ∧
      (judgeAddress addr s).light.stepTimer = s.light.stepTimer ∧
      (judgeAddress addr s).faults.flags = s.faults.flags ∧ (judgeAddress addr s).faults.alert = s.faults.alert ∧
      (judgeAddress addr s).faults.gasHigh = s.faults.gasHigh ∧
      (judgeAddress addr s).faults.shortfall = s.faults.shortfall ∧
      (judgeAddress addr s).faults.risen = s.faults.risen ∧
      (judgeAddress addr s).faults.noticeNumber = s.faults.noticeNumber ∧ (judgeAddress addr s).fire = s.fire ∧
      (judgeAddress addr s).mgmt.queue = s.mgmt.queue ∧ (judgeAddress addr s).mgmt.cursor = s.mgmt.cursor ∧
      (judgeAddress addr s).mgmt.storeSender = s.mgmt.storeSender ∧
      (judgeAddress addr s).mgmt.proxySender = s.mgmt.proxySender ∧
      (judgeAddress addr s).mgmt.restartPending = s.mgmt.restartPending ∧ (judgeAddress addr s).tables = s.tables ∧
      (judgeAddress addr s).store = s.store := by
  simp only [judgeAddress]
  repeat' split
  all_goals simp

/-- What `createRecord` leaves as it is. -/
@[simp] theorem createRecord_frame (c : FaultClass) (addr : Nat) (m : Mode) (s : State) :
    (createRecord c addr m s).pending = s.pending ∧ (createRecord c addr m s).clock = s.clock ∧
      (createRecord c addr m s).epoch = s.epoch ∧ (createRecord c addr m s).draws = s.draws ∧
      (createRecord c addr m s).phase = s.phase ∧ (createRecord c addr m s).ring.ownAddress = s.ring.ownAddress ∧
      (createRecord c addr m s).ring.rate = s.ring.rate ∧
      (createRecord c addr m s).ring.relayQueue = s.ring.relayQueue ∧
      (createRecord c addr m s).ring.runCount = s.ring.runCount ∧
      (createRecord c addr m s).ring.relayed = s.ring.relayed ∧
      (createRecord c addr m s).ring.badCheck = s.ring.badCheck ∧
      (createRecord c addr m s).ring.hopExpiry = s.ring.hopExpiry ∧
      (createRecord c addr m s).ring.relayFull = s.ring.relayFull ∧
      (createRecord c addr m s).ring.ringSilent = s.ring.ringSilent ∧
      (createRecord c addr m s).ring.silenceTimer = s.ring.silenceTimer ∧
      (createRecord c addr m s).ring.portB = s.ring.portB ∧ (createRecord c addr m s).nodes = s.nodes ∧
      (createRecord c addr m s).delivery = s.delivery ∧ (createRecord c addr m s).air = s.air ∧
      (createRecord c addr m s).fans = s.fans ∧ (createRecord c addr m s).guide = s.guide ∧
      (createRecord c addr m s).light = s.light ∧ (createRecord c addr m s).faults.gasHigh = s.faults.gasHigh ∧
      (createRecord c addr m s).faults.shortfall = s.faults.shortfall ∧
      (createRecord c addr m s).faults.noticeNumber = s.faults.noticeNumber ∧
      (createRecord c addr m s).fire = s.fire ∧ (createRecord c addr m s).mgmt = s.mgmt ∧
      (createRecord c addr m s).tables = s.tables ∧ (createRecord c addr m s).store = s.store := by
  simp only [createRecord]
  repeat' split
  all_goals simp

/-- What `recordPresence` leaves as it is. -/
@[simp] theorem recordPresence_frame (r : FaultRecord) (m : Mode) (s : State) :
    (recordPresence r m s).pending = s.pending ∧ (recordPresence r m s).clock = s.clock ∧
      (recordPresence r m s).epoch = s.epoch ∧ (recordPresence r m s).draws = s.draws ∧
      (recordPresence r m s).phase = s.phase ∧ (recordPresence r m s).ring.ownAddress = s.ring.ownAddress ∧
      (recordPresence r m s).ring.rate = s.ring.rate ∧ (recordPresence r m s).ring.relayQueue = s.ring.relayQueue ∧
      (recordPresence r m s).ring.runCount = s.ring.runCount ∧ (recordPresence r m s).ring.relayed = s.ring.relayed ∧
      (recordPresence r m s).ring.badCheck = s.ring.badCheck ∧
      (recordPresence r m s).ring.hopExpiry = s.ring.hopExpiry ∧
      (recordPresence r m s).ring.relayFull = s.ring.relayFull ∧
      (recordPresence r m s).ring.ringSilent = s.ring.ringSilent ∧
      (recordPresence r m s).ring.silenceTimer = s.ring.silenceTimer ∧
      (recordPresence r m s).ring.portB = s.ring.portB ∧ (recordPresence r m s).nodes = s.nodes ∧
      (recordPresence r m s).delivery = s.delivery ∧ (recordPresence r m s).air = s.air ∧
      (recordPresence r m s).fans = s.fans ∧ (recordPresence r m s).guide = s.guide ∧
      (recordPresence r m s).light = s.light ∧ (recordPresence r m s).faults.gasHigh = s.faults.gasHigh ∧
      (recordPresence r m s).faults.shortfall = s.faults.shortfall ∧
      (recordPresence r m s).faults.noticeNumber = s.faults.noticeNumber ∧ (recordPresence r m s).fire = s.fire ∧
      (recordPresence r m s).mgmt = s.mgmt ∧ (recordPresence r m s).tables = s.tables ∧
      (recordPresence r m s).store = s.store := by
  simp [recordPresence]

/-- What `presence` leaves as it is. -/
@[simp] theorem presence_frame (c : FaultClass) (addr : Nat) (s : State) :
    (presence c addr s).pending = s.pending ∧ (presence c addr s).clock = s.clock ∧
      (presence c addr s).epoch = s.epoch ∧ (presence c addr s).draws = s.draws ∧
      (presence c addr s).phase = s.phase ∧ (presence c addr s).ring.ownAddress = s.ring.ownAddress ∧
      (presence c addr s).ring.rate = s.ring.rate ∧ (presence c addr s).ring.relayQueue = s.ring.relayQueue ∧
      (presence c addr s).ring.runCount = s.ring.runCount ∧ (presence c addr s).ring.relayed = s.ring.relayed ∧
      (presence c addr s).ring.badCheck = s.ring.badCheck ∧ (presence c addr s).ring.hopExpiry = s.ring.hopExpiry ∧
      (presence c addr s).ring.relayFull = s.ring.relayFull ∧
      (presence c addr s).ring.ringSilent = s.ring.ringSilent ∧
      (presence c addr s).ring.silenceTimer = s.ring.silenceTimer ∧ (presence c addr s).ring.portB = s.ring.portB ∧
      (presence c addr s).nodes = s.nodes ∧ (presence c addr s).delivery.tagCounter = s.delivery.tagCounter ∧
      (presence c addr s).delivery.noTake = s.delivery.noTake ∧ (presence c addr s).air = s.air ∧
      (presence c addr s).guide.bays = s.guide.bays ∧ (presence c addr s).guide.rowFree = s.guide.rowFree ∧
      (presence c addr s).guide.levels = s.guide.levels ∧
      (presence c addr s).guide.clusterFault = s.guide.clusterFault ∧
      (presence c addr s).light.stepTimer = s.light.stepTimer ∧
      (presence c addr s).faults.gasHigh = s.faults.gasHigh ∧
      (presence c addr s).faults.shortfall = s.faults.shortfall ∧
      (presence c addr s).faults.noticeNumber = s.faults.noticeNumber ∧ (presence c addr s).fire = s.fire ∧
      (presence c addr s).mgmt.queue = s.mgmt.queue ∧ (presence c addr s).mgmt.cursor = s.mgmt.cursor ∧
      (presence c addr s).mgmt.storeSender = s.mgmt.storeSender ∧
      (presence c addr s).mgmt.proxySender = s.mgmt.proxySender ∧
      (presence c addr s).mgmt.restartPending = s.mgmt.restartPending ∧ (presence c addr s).tables = s.tables ∧
      (presence c addr s).store = s.store := by
  simp only [presence]
  repeat' split
  all_goals simp

/-- What `retryExpired` leaves as it is. -/
@[simp] theorem retryExpired_frame (c : FaultClass) (addr : Nat) (s : State) :
    (retryExpired c addr s).pending = s.pending ∧ (retryExpired c addr s).clock = s.clock ∧
      (retryExpired c addr s).epoch = s.epoch ∧ (retryExpired c addr s).draws = s.draws ∧
      (retryExpired c addr s).phase = s.phase ∧ (retryExpired c addr s).ring.ownAddress = s.ring.ownAddress ∧
      (retryExpired c addr s).ring.rate = s.ring.rate ∧ (retryExpired c addr s).ring.relayQueue = s.ring.relayQueue ∧
      (retryExpired c addr s).ring.runCount = s.ring.runCount ∧
      (retryExpired c addr s).ring.relayed = s.ring.relayed ∧
      (retryExpired c addr s).ring.badCheck = s.ring.badCheck ∧
      (retryExpired c addr s).ring.hopExpiry = s.ring.hopExpiry ∧
      (retryExpired c addr s).ring.relayFull = s.ring.relayFull ∧
      (retryExpired c addr s).ring.ringSilent = s.ring.ringSilent ∧
      (retryExpired c addr s).ring.silenceTimer = s.ring.silenceTimer ∧
      (retryExpired c addr s).ring.portB = s.ring.portB ∧ (retryExpired c addr s).nodes = s.nodes ∧
      (retryExpired c addr s).delivery.tagCounter = s.delivery.tagCounter ∧
      (retryExpired c addr s).delivery.noTake = s.delivery.noTake ∧ (retryExpired c addr s).air = s.air ∧
      (retryExpired c addr s).guide.bays = s.guide.bays ∧ (retryExpired c addr s).guide.rowFree = s.guide.rowFree ∧
      (retryExpired c addr s).guide.levels = s.guide.levels ∧
      (retryExpired c addr s).guide.clusterFault = s.guide.clusterFault ∧
      (retryExpired c addr s).light.stepTimer = s.light.stepTimer ∧
      (retryExpired c addr s).faults.gasHigh = s.faults.gasHigh ∧
      (retryExpired c addr s).faults.shortfall = s.faults.shortfall ∧
      (retryExpired c addr s).faults.noticeNumber = s.faults.noticeNumber ∧ (retryExpired c addr s).fire = s.fire ∧
      (retryExpired c addr s).mgmt.queue = s.mgmt.queue ∧ (retryExpired c addr s).mgmt.cursor = s.mgmt.cursor ∧
      (retryExpired c addr s).mgmt.storeSender = s.mgmt.storeSender ∧
      (retryExpired c addr s).mgmt.proxySender = s.mgmt.proxySender ∧
      (retryExpired c addr s).mgmt.restartPending = s.mgmt.restartPending ∧
      (retryExpired c addr s).tables = s.tables ∧ (retryExpired c addr s).store = s.store := by
  simp only [retryExpired]
  repeat' split
  all_goals simp

/-- What `judgeAddresses` leaves as it is. -/
@[simp] theorem judgeAddresses_frame (l : List Nat) (s : State) :
    (l.foldl (fun t a => judgeAddress a t) s).pending = s.pending ∧
      (l.foldl (fun t a => judgeAddress a t) s).clock = s.clock ∧
      (l.foldl (fun t a => judgeAddress a t) s).epoch = s.epoch ∧
      (l.foldl (fun t a => judgeAddress a t) s).draws = s.draws ∧
      (l.foldl (fun t a => judgeAddress a t) s).phase = s.phase ∧
      (l.foldl (fun t a => judgeAddress a t) s).ring.ownAddress = s.ring.ownAddress ∧
      (l.foldl (fun t a => judgeAddress a t) s).ring.rate = s.ring.rate ∧
      (l.foldl (fun t a => judgeAddress a t) s).ring.relayQueue = s.ring.relayQueue ∧
      (l.foldl (fun t a => judgeAddress a t) s).ring.runCount = s.ring.runCount ∧
      (l.foldl (fun t a => judgeAddress a t) s).ring.relayed = s.ring.relayed ∧
      (l.foldl (fun t a => judgeAddress a t) s).ring.badCheck = s.ring.badCheck ∧
      (l.foldl (fun t a => judgeAddress a t) s).ring.hopExpiry = s.ring.hopExpiry ∧
      (l.foldl (fun t a => judgeAddress a t) s).ring.relayFull = s.ring.relayFull ∧
      (l.foldl (fun t a => judgeAddress a t) s).ring.ringSilent = s.ring.ringSilent ∧
      (l.foldl (fun t a => judgeAddress a t) s).ring.silenceTimer = s.ring.silenceTimer ∧
      (l.foldl (fun t a => judgeAddress a t) s).ring.portB = s.ring.portB ∧
      (l.foldl (fun t a => judgeAddress a t) s).nodes = s.nodes ∧
      (l.foldl (fun t a => judgeAddress a t) s).delivery.tagCounter = s.delivery.tagCounter ∧
      (l.foldl (fun t a => judgeAddress a t) s).delivery.noTake = s.delivery.noTake ∧
      (l.foldl (fun t a => judgeAddress a t) s).air = s.air ∧
      (l.foldl (fun t a => judgeAddress a t) s).guide.bays = s.guide.bays ∧
      (l.foldl (fun t a => judgeAddress a t) s).guide.rowFree = s.guide.rowFree ∧
      (l.foldl (fun t a => judgeAddress a t) s).guide.levels = s.guide.levels ∧
      (l.foldl (fun t a => judgeAddress a t) s).guide.clusterFault = s.guide.clusterFault ∧
      (l.foldl (fun t a => judgeAddress a t) s).light.stepTimer = s.light.stepTimer ∧
      (l.foldl (fun t a => judgeAddress a t) s).faults.flags = s.faults.flags ∧
      (l.foldl (fun t a => judgeAddress a t) s).faults.alert = s.faults.alert ∧
      (l.foldl (fun t a => judgeAddress a t) s).faults.gasHigh = s.faults.gasHigh ∧
      (l.foldl (fun t a => judgeAddress a t) s).faults.shortfall = s.faults.shortfall ∧
      (l.foldl (fun t a => judgeAddress a t) s).faults.risen = s.faults.risen ∧
      (l.foldl (fun t a => judgeAddress a t) s).faults.noticeNumber = s.faults.noticeNumber ∧
      (l.foldl (fun t a => judgeAddress a t) s).fire = s.fire ∧
      (l.foldl (fun t a => judgeAddress a t) s).mgmt.queue = s.mgmt.queue ∧
      (l.foldl (fun t a => judgeAddress a t) s).mgmt.cursor = s.mgmt.cursor ∧
      (l.foldl (fun t a => judgeAddress a t) s).mgmt.storeSender = s.mgmt.storeSender ∧
      (l.foldl (fun t a => judgeAddress a t) s).mgmt.proxySender = s.mgmt.proxySender ∧
      (l.foldl (fun t a => judgeAddress a t) s).mgmt.restartPending = s.mgmt.restartPending ∧
      (l.foldl (fun t a => judgeAddress a t) s).tables = s.tables ∧
      (l.foldl (fun t a => judgeAddress a t) s).store = s.store := by
  refine foldl_frame (R := fun a b =>
    b.pending = a.pending ∧ b.clock = a.clock ∧ b.epoch = a.epoch ∧ b.draws = a.draws ∧ b.phase = a.phase ∧
    b.ring.ownAddress = a.ring.ownAddress ∧ b.ring.rate = a.ring.rate ∧ b.ring.relayQueue = a.ring.relayQueue ∧
    b.ring.runCount = a.ring.runCount ∧ b.ring.relayed = a.ring.relayed ∧ b.ring.badCheck = a.ring.badCheck ∧
    b.ring.hopExpiry = a.ring.hopExpiry ∧ b.ring.relayFull = a.ring.relayFull ∧
    b.ring.ringSilent = a.ring.ringSilent ∧ b.ring.silenceTimer = a.ring.silenceTimer ∧
    b.ring.portB = a.ring.portB ∧ b.nodes = a.nodes ∧ b.delivery.tagCounter = a.delivery.tagCounter ∧
    b.delivery.noTake = a.delivery.noTake ∧ b.air = a.air ∧ b.guide.bays = a.guide.bays ∧
    b.guide.rowFree = a.guide.rowFree ∧ b.guide.levels = a.guide.levels ∧
    b.guide.clusterFault = a.guide.clusterFault ∧ b.light.stepTimer = a.light.stepTimer ∧
    b.faults.flags = a.faults.flags ∧ b.faults.alert = a.faults.alert ∧ b.faults.gasHigh = a.faults.gasHigh ∧
    b.faults.shortfall = a.faults.shortfall ∧ b.faults.risen = a.faults.risen ∧
    b.faults.noticeNumber = a.faults.noticeNumber ∧ b.fire = a.fire ∧ b.mgmt.queue = a.mgmt.queue ∧
    b.mgmt.cursor = a.mgmt.cursor ∧ b.mgmt.storeSender = a.mgmt.storeSender ∧
    b.mgmt.proxySender = a.mgmt.proxySender ∧ b.mgmt.restartPending = a.mgmt.restartPending ∧ b.tables = a.tables ∧
    b.store = a.store) ?_ ?_ ?_ l s
  · intro t; simp
  · intro a b c h1 h2; simp_all
  · intro i t; simp

/-- What `clearRecords` leaves as it is. -/
@[simp] theorem clearRecords_frame (code : Nat) (s : State) :
    (clearRecords code s).pending = s.pending ∧ (clearRecords code s).clock = s.clock ∧
      (clearRecords code s).epoch = s.epoch ∧ (clearRecords code s).draws = s.draws ∧
      (clearRecords code s).phase = s.phase ∧ (clearRecords code s).ring.ownAddress = s.ring.ownAddress ∧
      (clearRecords code s).ring.rate = s.ring.rate ∧ (clearRecords code s).ring.relayQueue = s.ring.relayQueue ∧
      (clearRecords code s).ring.runCount = s.ring.runCount ∧ (clearRecords code s).ring.relayed = s.ring.relayed ∧
      (clearRecords code s).ring.badCheck = s.ring.badCheck ∧
      (clearRecords code s).ring.hopExpiry = s.ring.hopExpiry ∧
      (clearRecords code s).ring.relayFull = s.ring.relayFull ∧
      (clearRecords code s).ring.ringSilent = s.ring.ringSilent ∧
      (clearRecords code s).ring.silenceTimer = s.ring.silenceTimer ∧
      (clearRecords code s).ring.portB = s.ring.portB ∧ (clearRecords code s).nodes = s.nodes ∧
      (clearRecords code s).delivery.tagCounter = s.delivery.tagCounter ∧
      (clearRecords code s).delivery.noTake = s.delivery.noTake ∧ (clearRecords code s).air = s.air ∧
      (clearRecords code s).guide.bays = s.guide.bays ∧ (clearRecords code s).guide.rowFree = s.guide.rowFree ∧
      (clearRecords code s).guide.levels = s.guide.levels ∧
      (clearRecords code s).guide.clusterFault = s.guide.clusterFault ∧
      (clearRecords code s).light.stepTimer = s.light.stepTimer ∧
      (clearRecords code s).faults.flags = s.faults.flags ∧ (clearRecords code s).faults.alert = s.faults.alert ∧
      (clearRecords code s).faults.gasHigh = s.faults.gasHigh ∧
      (clearRecords code s).faults.shortfall = s.faults.shortfall ∧
      (clearRecords code s).faults.risen = s.faults.risen ∧
      (clearRecords code s).faults.noticeNumber = s.faults.noticeNumber ∧ (clearRecords code s).fire = s.fire ∧
      (clearRecords code s).mgmt.queue = s.mgmt.queue ∧ (clearRecords code s).mgmt.cursor = s.mgmt.cursor ∧
      (clearRecords code s).mgmt.storeSender = s.mgmt.storeSender ∧
      (clearRecords code s).mgmt.proxySender = s.mgmt.proxySender ∧
      (clearRecords code s).mgmt.restartPending = s.mgmt.restartPending ∧ (clearRecords code s).tables = s.tables ∧
      (clearRecords code s).store = s.store := by
  simp [clearRecords]

/-- What `faultsFireEntry` leaves as it is. -/
@[simp] theorem faultsFireEntry_frame  (s : State) :
    (faultsFireEntry s).pending = s.pending ∧ (faultsFireEntry s).clock = s.clock ∧
      (faultsFireEntry s).epoch = s.epoch ∧ (faultsFireEntry s).draws = s.draws ∧
      (faultsFireEntry s).phase = s.phase ∧ (faultsFireEntry s).ring.ownAddress = s.ring.ownAddress ∧
      (faultsFireEntry s).ring.rate = s.ring.rate ∧ (faultsFireEntry s).ring.relayQueue = s.ring.relayQueue ∧
      (faultsFireEntry s).ring.runCount = s.ring.runCount ∧ (faultsFireEntry s).ring.relayed = s.ring.relayed ∧
      (faultsFireEntry s).ring.badCheck = s.ring.badCheck ∧ (faultsFireEntry s).ring.hopExpiry = s.ring.hopExpiry ∧
      (faultsFireEntry s).ring.relayFull = s.ring.relayFull ∧
      (faultsFireEntry s).ring.ringSilent = s.ring.ringSilent ∧
      (faultsFireEntry s).ring.silenceTimer = s.ring.silenceTimer ∧ (faultsFireEntry s).ring.portB = s.ring.portB ∧
      (faultsFireEntry s).nodes = s.nodes ∧ (faultsFireEntry s).delivery.tagCounter = s.delivery.tagCounter ∧
      (faultsFireEntry s).delivery.noTake = s.delivery.noTake ∧ (faultsFireEntry s).air = s.air ∧
      (faultsFireEntry s).guide.bays = s.guide.bays ∧ (faultsFireEntry s).guide.rowFree = s.guide.rowFree ∧
      (faultsFireEntry s).guide.levels = s.guide.levels ∧
      (faultsFireEntry s).guide.clusterFault = s.guide.clusterFault ∧
      (faultsFireEntry s).light.stepTimer = s.light.stepTimer ∧
      (faultsFireEntry s).faults.gasHigh = s.faults.gasHigh ∧
      (faultsFireEntry s).faults.shortfall = s.faults.shortfall ∧
      (faultsFireEntry s).faults.noticeNumber = s.faults.noticeNumber ∧ (faultsFireEntry s).fire = s.fire ∧
      (faultsFireEntry s).mgmt.queue = s.mgmt.queue ∧ (faultsFireEntry s).mgmt.cursor = s.mgmt.cursor ∧
      (faultsFireEntry s).mgmt.storeSender = s.mgmt.storeSender ∧
      (faultsFireEntry s).mgmt.proxySender = s.mgmt.proxySender ∧
      (faultsFireEntry s).mgmt.restartPending = s.mgmt.restartPending ∧ (faultsFireEntry s).tables = s.tables ∧
      (faultsFireEntry s).store = s.store := by
  simp [faultsFireEntry]

/-- What `faultsFireExit` leaves as it is. -/
@[simp] theorem faultsFireExit_frame  (s : State) :
    (faultsFireExit s).pending = s.pending ∧ (faultsFireExit s).clock = s.clock ∧
      (faultsFireExit s).epoch = s.epoch ∧ (faultsFireExit s).draws = s.draws ∧ (faultsFireExit s).phase = s.phase ∧
      (faultsFireExit s).ring.ownAddress = s.ring.ownAddress ∧ (faultsFireExit s).ring.rate = s.ring.rate ∧
      (faultsFireExit s).ring.relayQueue = s.ring.relayQueue ∧ (faultsFireExit s).ring.runCount = s.ring.runCount ∧
      (faultsFireExit s).ring.relayed = s.ring.relayed ∧ (faultsFireExit s).ring.badCheck = s.ring.badCheck ∧
      (faultsFireExit s).ring.hopExpiry = s.ring.hopExpiry ∧ (faultsFireExit s).ring.relayFull = s.ring.relayFull ∧
      (faultsFireExit s).ring.ringSilent = s.ring.ringSilent ∧
      (faultsFireExit s).ring.silenceTimer = s.ring.silenceTimer ∧ (faultsFireExit s).ring.portB = s.ring.portB ∧
      (faultsFireExit s).nodes = s.nodes ∧ (faultsFireExit s).delivery.tagCounter = s.delivery.tagCounter ∧
      (faultsFireExit s).delivery.noTake = s.delivery.noTake ∧ (faultsFireExit s).air = s.air ∧
      (faultsFireExit s).guide.bays = s.guide.bays ∧ (faultsFireExit s).guide.rowFree = s.guide.rowFree ∧
      (faultsFireExit s).guide.levels = s.guide.levels ∧
      (faultsFireExit s).guide.clusterFault = s.guide.clusterFault ∧
      (faultsFireExit s).light.stepTimer = s.light.stepTimer ∧ (faultsFireExit s).faults.flags = s.faults.flags ∧
      (faultsFireExit s).faults.alert = s.faults.alert ∧ (faultsFireExit s).faults.gasHigh = s.faults.gasHigh ∧
      (faultsFireExit s).faults.shortfall = s.faults.shortfall ∧ (faultsFireExit s).faults.risen = s.faults.risen ∧
      (faultsFireExit s).faults.noticeNumber = s.faults.noticeNumber ∧ (faultsFireExit s).fire = s.fire ∧
      (faultsFireExit s).mgmt.queue = s.mgmt.queue ∧ (faultsFireExit s).mgmt.cursor = s.mgmt.cursor ∧
      (faultsFireExit s).mgmt.storeSender = s.mgmt.storeSender ∧
      (faultsFireExit s).mgmt.proxySender = s.mgmt.proxySender ∧
      (faultsFireExit s).mgmt.restartPending = s.mgmt.restartPending ∧ (faultsFireExit s).tables = s.tables ∧
      (faultsFireExit s).store = s.store := by
  simp [faultsFireExit]

/-- What `setNoTake` leaves as it is. -/
@[simp] theorem setNoTake_frame (addr : Nat) (on : Bool) (s : State) :
    (setNoTake addr on s).pending = s.pending ∧ (setNoTake addr on s).clock = s.clock ∧
      (setNoTake addr on s).epoch = s.epoch ∧ (setNoTake addr on s).draws = s.draws ∧
      (setNoTake addr on s).phase = s.phase ∧ (setNoTake addr on s).ring = s.ring ∧
      (setNoTake addr on s).nodes = s.nodes ∧ (setNoTake addr on s).delivery.fans = s.delivery.fans ∧
      (setNoTake addr on s).delivery.groups = s.delivery.groups ∧
      (setNoTake addr on s).delivery.signs = s.delivery.signs ∧
      (setNoTake addr on s).delivery.tagCounter = s.delivery.tagCounter ∧
      (setNoTake addr on s).delivery.proxy = s.delivery.proxy ∧ (setNoTake addr on s).air = s.air ∧
      (setNoTake addr on s).fans = s.fans ∧ (setNoTake addr on s).guide = s.guide ∧
      (setNoTake addr on s).light = s.light ∧ (setNoTake addr on s).faults = s.faults ∧
      (setNoTake addr on s).fire = s.fire ∧ (setNoTake addr on s).mgmt = s.mgmt ∧
      (setNoTake addr on s).tables = s.tables ∧ (setNoTake addr on s).store = s.store := by
  simp [setNoTake]

/-- What `endNoTake` leaves as it is. -/
@[simp] theorem endNoTake_frame (addr : Nat) (s : State) :
    (endNoTake addr s).pending = s.pending ∧ (endNoTake addr s).clock = s.clock ∧
      (endNoTake addr s).epoch = s.epoch ∧ (endNoTake addr s).draws = s.draws ∧ (endNoTake addr s).phase = s.phase ∧
      (endNoTake addr s).ring = s.ring ∧ (endNoTake addr s).nodes = s.nodes ∧
      (endNoTake addr s).delivery.fans = s.delivery.fans ∧ (endNoTake addr s).delivery.groups = s.delivery.groups ∧
      (endNoTake addr s).delivery.signs = s.delivery.signs ∧
      (endNoTake addr s).delivery.tagCounter = s.delivery.tagCounter ∧
      (endNoTake addr s).delivery.proxy = s.delivery.proxy ∧ (endNoTake addr s).air = s.air ∧
      (endNoTake addr s).fans = s.fans ∧ (endNoTake addr s).guide = s.guide ∧ (endNoTake addr s).light = s.light ∧
      (endNoTake addr s).faults.flags = s.faults.flags ∧ (endNoTake addr s).faults.alert = s.faults.alert ∧
      (endNoTake addr s).faults.gasHigh = s.faults.gasHigh ∧
      (endNoTake addr s).faults.shortfall = s.faults.shortfall ∧ (endNoTake addr s).faults.risen = s.faults.risen ∧
      (endNoTake addr s).faults.notice = s.faults.notice ∧
      (endNoTake addr s).faults.noticeNumber = s.faults.noticeNumber ∧ (endNoTake addr s).fire = s.fire ∧
      (endNoTake addr s).mgmt = s.mgmt ∧ (endNoTake addr s).tables = s.tables ∧
      (endNoTake addr s).store = s.store := by
  simp only [endNoTake]
  repeat' split
  all_goals simp

/-- What `raiseNoTake` leaves as it is. -/
@[simp] theorem raiseNoTake_frame (addr : Nat) (s : State) :
    (raiseNoTake addr s).pending = s.pending ∧ (raiseNoTake addr s).clock = s.clock ∧
      (raiseNoTake addr s).epoch = s.epoch ∧ (raiseNoTake addr s).draws = s.draws ∧
      (raiseNoTake addr s).phase = s.phase ∧ (raiseNoTake addr s).ring.ownAddress = s.ring.ownAddress ∧
      (raiseNoTake addr s).ring.rate = s.ring.rate ∧ (raiseNoTake addr s).ring.relayQueue = s.ring.relayQueue ∧
      (raiseNoTake addr s).ring.runCount = s.ring.runCount ∧ (raiseNoTake addr s).ring.relayed = s.ring.relayed ∧
      (raiseNoTake addr s).ring.badCheck = s.ring.badCheck ∧ (raiseNoTake addr s).ring.hopExpiry = s.ring.hopExpiry ∧
      (raiseNoTake addr s).ring.relayFull = s.ring.relayFull ∧
      (raiseNoTake addr s).ring.ringSilent = s.ring.ringSilent ∧
      (raiseNoTake addr s).ring.silenceTimer = s.ring.silenceTimer ∧ (raiseNoTake addr s).ring.portB = s.ring.portB ∧
      (raiseNoTake addr s).nodes = s.nodes ∧ (raiseNoTake addr s).delivery.tagCounter = s.delivery.tagCounter ∧
      (raiseNoTake addr s).air = s.air ∧ (raiseNoTake addr s).guide.bays = s.guide.bays ∧
      (raiseNoTake addr s).guide.rowFree = s.guide.rowFree ∧ (raiseNoTake addr s).guide.levels = s.guide.levels ∧
      (raiseNoTake addr s).guide.clusterFault = s.guide.clusterFault ∧
      (raiseNoTake addr s).light.stepTimer = s.light.stepTimer ∧
      (raiseNoTake addr s).faults.gasHigh = s.faults.gasHigh ∧
      (raiseNoTake addr s).faults.shortfall = s.faults.shortfall ∧
      (raiseNoTake addr s).faults.noticeNumber = s.faults.noticeNumber ∧ (raiseNoTake addr s).fire = s.fire ∧
      (raiseNoTake addr s).mgmt.queue = s.mgmt.queue ∧ (raiseNoTake addr s).mgmt.cursor = s.mgmt.cursor ∧
      (raiseNoTake addr s).mgmt.storeSender = s.mgmt.storeSender ∧
      (raiseNoTake addr s).mgmt.proxySender = s.mgmt.proxySender ∧
      (raiseNoTake addr s).mgmt.restartPending = s.mgmt.restartPending ∧ (raiseNoTake addr s).tables = s.tables ∧
      (raiseNoTake addr s).store = s.store := by
  simp only [raiseNoTake]
  repeat' split
  all_goals simp

/-- What `failAttempt` leaves as it is. -/
@[simp] theorem failAttempt_frame (a : Actuator) (dest : Nat) (s : State) :
    (failAttempt a dest s).pending = s.pending ∧ (failAttempt a dest s).clock = s.clock ∧
      (failAttempt a dest s).epoch = s.epoch ∧ (failAttempt a dest s).draws = s.draws ∧
      (failAttempt a dest s).phase = s.phase ∧ (failAttempt a dest s).ring.ownAddress = s.ring.ownAddress ∧
      (failAttempt a dest s).ring.rate = s.ring.rate ∧ (failAttempt a dest s).ring.relayQueue = s.ring.relayQueue ∧
      (failAttempt a dest s).ring.runCount = s.ring.runCount ∧ (failAttempt a dest s).ring.relayed = s.ring.relayed ∧
      (failAttempt a dest s).ring.badCheck = s.ring.badCheck ∧
      (failAttempt a dest s).ring.hopExpiry = s.ring.hopExpiry ∧
      (failAttempt a dest s).ring.relayFull = s.ring.relayFull ∧
      (failAttempt a dest s).ring.ringSilent = s.ring.ringSilent ∧
      (failAttempt a dest s).ring.silenceTimer = s.ring.silenceTimer ∧
      (failAttempt a dest s).ring.portB = s.ring.portB ∧ (failAttempt a dest s).nodes = s.nodes ∧
      (failAttempt a dest s).delivery.tagCounter = s.delivery.tagCounter ∧ (failAttempt a dest s).air = s.air ∧
      (failAttempt a dest s).guide.bays = s.guide.bays ∧ (failAttempt a dest s).guide.rowFree = s.guide.rowFree ∧
      (failAttempt a dest s).guide.levels = s.guide.levels ∧
      (failAttempt a dest s).guide.clusterFault = s.guide.clusterFault ∧
      (failAttempt a dest s).light.stepTimer = s.light.stepTimer ∧
      (failAttempt a dest s).faults.gasHigh = s.faults.gasHigh ∧
      (failAttempt a dest s).faults.shortfall = s.faults.shortfall ∧
      (failAttempt a dest s).faults.noticeNumber = s.faults.noticeNumber ∧ (failAttempt a dest s).fire = s.fire ∧
      (failAttempt a dest s).mgmt.queue = s.mgmt.queue ∧ (failAttempt a dest s).mgmt.cursor = s.mgmt.cursor ∧
      (failAttempt a dest s).mgmt.storeSender = s.mgmt.storeSender ∧
      (failAttempt a dest s).mgmt.proxySender = s.mgmt.proxySender ∧
      (failAttempt a dest s).mgmt.restartPending = s.mgmt.restartPending ∧ (failAttempt a dest s).tables = s.tables ∧
      (failAttempt a dest s).store = s.store := by
  simp only [failAttempt]
  repeat' split
  all_goals simp

/-- What `takeReturn` leaves as it is. -/
@[simp] theorem takeReturn_frame (a : Actuator) (f : InFlight) (s : State) :
    (takeReturn a f s).pending = s.pending ∧ (takeReturn a f s).clock = s.clock ∧
      (takeReturn a f s).epoch = s.epoch ∧ (takeReturn a f s).draws = s.draws ∧ (takeReturn a f s).phase = s.phase ∧
      (takeReturn a f s).ring.ownAddress = s.ring.ownAddress ∧ (takeReturn a f s).ring.rate = s.ring.rate ∧
      (takeReturn a f s).ring.relayQueue = s.ring.relayQueue ∧ (takeReturn a f s).ring.runCount = s.ring.runCount ∧
      (takeReturn a f s).ring.relayed = s.ring.relayed ∧ (takeReturn a f s).ring.badCheck = s.ring.badCheck ∧
      (takeReturn a f s).ring.hopExpiry = s.ring.hopExpiry ∧ (takeReturn a f s).ring.relayFull = s.ring.relayFull ∧
      (takeReturn a f s).ring.ringSilent = s.ring.ringSilent ∧
      (takeReturn a f s).ring.silenceTimer = s.ring.silenceTimer ∧ (takeReturn a f s).ring.portB = s.ring.portB ∧
      (takeReturn a f s).nodes = s.nodes ∧ (takeReturn a f s).delivery.tagCounter = s.delivery.tagCounter ∧
      (takeReturn a f s).delivery.proxy = s.delivery.proxy ∧ (takeReturn a f s).air = s.air ∧
      (takeReturn a f s).fans = s.fans ∧ (takeReturn a f s).guide = s.guide ∧ (takeReturn a f s).light = s.light ∧
      (takeReturn a f s).faults.flags = s.faults.flags ∧ (takeReturn a f s).faults.alert = s.faults.alert ∧
      (takeReturn a f s).faults.gasHigh = s.faults.gasHigh ∧
      (takeReturn a f s).faults.shortfall = s.faults.shortfall ∧ (takeReturn a f s).faults.risen = s.faults.risen ∧
      (takeReturn a f s).faults.notice = s.faults.notice ∧
      (takeReturn a f s).faults.noticeNumber = s.faults.noticeNumber ∧ (takeReturn a f s).fire = s.fire ∧
      (takeReturn a f s).mgmt = s.mgmt ∧ (takeReturn a f s).tables = s.tables ∧
      (takeReturn a f s).store = s.store := by
  simp only [takeReturn]
  repeat' split
  all_goals simp

/-- What `endProxy` leaves as it is. -/
@[simp] theorem endProxy_frame (code : Nat) (content : List Byte) (s : State) :
    (endProxy code content s).pending = s.pending ∧ (endProxy code content s).clock = s.clock ∧
      (endProxy code content s).epoch = s.epoch ∧ (endProxy code content s).draws = s.draws ∧
      (endProxy code content s).phase = s.phase ∧ (endProxy code content s).ring.ownAddress = s.ring.ownAddress ∧
      (endProxy code content s).ring.rate = s.ring.rate ∧
      (endProxy code content s).ring.relayQueue = s.ring.relayQueue ∧
      (endProxy code content s).ring.runCount = s.ring.runCount ∧
      (endProxy code content s).ring.relayed = s.ring.relayed ∧
      (endProxy code content s).ring.badCheck = s.ring.badCheck ∧
      (endProxy code content s).ring.hopExpiry = s.ring.hopExpiry ∧
      (endProxy code content s).ring.relayFull = s.ring.relayFull ∧
      (endProxy code content s).ring.ringSilent = s.ring.ringSilent ∧
      (endProxy code content s).ring.silenceTimer = s.ring.silenceTimer ∧
      (endProxy code content s).ring.portB = s.ring.portB ∧ (endProxy code content s).nodes = s.nodes ∧
      (endProxy code content s).delivery.fans = s.delivery.fans ∧
      (endProxy code content s).delivery.groups = s.delivery.groups ∧
      (endProxy code content s).delivery.signs = s.delivery.signs ∧
      (endProxy code content s).delivery.tagCounter = s.delivery.tagCounter ∧
      (endProxy code content s).delivery.noTake = s.delivery.noTake ∧ (endProxy code content s).air = s.air ∧
      (endProxy code content s).fans = s.fans ∧ (endProxy code content s).guide = s.guide ∧
      (endProxy code content s).light = s.light ∧ (endProxy code content s).faults = s.faults ∧
      (endProxy code content s).fire = s.fire ∧ (endProxy code content s).mgmt.queue = s.mgmt.queue ∧
      (endProxy code content s).mgmt.cursor = s.mgmt.cursor ∧
      (endProxy code content s).mgmt.storeSender = s.mgmt.storeSender ∧
      (endProxy code content s).mgmt.restartPending = s.mgmt.restartPending ∧
      (endProxy code content s).tables = s.tables ∧ (endProxy code content s).store = s.store := by
  simp only [endProxy]
  repeat' split
  all_goals simp

/-- What `commandReturned` leaves as it is. -/
@[simp] theorem commandReturned_frame (f : Frame) (s : State) :
    (commandReturned f s).pending = s.pending ∧ (commandReturned f s).clock = s.clock ∧
      (commandReturned f s).epoch = s.epoch ∧ (commandReturned f s).draws = s.draws ∧
      (commandReturned f s).phase = s.phase ∧ (commandReturned f s).ring.ownAddress = s.ring.ownAddress ∧
      (commandReturned f s).ring.rate = s.ring.rate ∧ (commandReturned f s).ring.relayQueue = s.ring.relayQueue ∧
      (commandReturned f s).ring.runCount = s.ring.runCount ∧ (commandReturned f s).ring.relayed = s.ring.relayed ∧
      (commandReturned f s).ring.badCheck = s.ring.badCheck ∧
      (commandReturned f s).ring.hopExpiry = s.ring.hopExpiry ∧
      (commandReturned f s).ring.relayFull = s.ring.relayFull ∧
      (commandReturned f s).ring.ringSilent = s.ring.ringSilent ∧
      (commandReturned f s).ring.silenceTimer = s.ring.silenceTimer ∧
      (commandReturned f s).ring.portB = s.ring.portB ∧ (commandReturned f s).nodes = s.nodes ∧
      (commandReturned f s).delivery.tagCounter = s.delivery.tagCounter ∧ (commandReturned f s).air = s.air ∧
      (commandReturned f s).guide.bays = s.guide.bays ∧ (commandReturned f s).guide.rowFree = s.guide.rowFree ∧
      (commandReturned f s).guide.levels = s.guide.levels ∧
      (commandReturned f s).guide.clusterFault = s.guide.clusterFault ∧
      (commandReturned f s).light.stepTimer = s.light.stepTimer ∧
      (commandReturned f s).faults.gasHigh = s.faults.gasHigh ∧
      (commandReturned f s).faults.shortfall = s.faults.shortfall ∧
      (commandReturned f s).faults.noticeNumber = s.faults.noticeNumber ∧ (commandReturned f s).fire = s.fire ∧
      (commandReturned f s).mgmt.queue = s.mgmt.queue ∧ (commandReturned f s).mgmt.cursor = s.mgmt.cursor ∧
      (commandReturned f s).mgmt.storeSender = s.mgmt.storeSender ∧
      (commandReturned f s).mgmt.restartPending = s.mgmt.restartPending ∧ (commandReturned f s).tables = s.tables ∧
      (commandReturned f s).store = s.store := by
  simp only [commandReturned]
  repeat' split
  all_goals simp

end Sys2Proof.Machine
end

