-- ==== Sys2Proof/Laws/FramesBlocks.lean ====
section
/-! SUPPORT. Laws/FramesBlocks.lean: what each operation of the guidance block, the air block, the allocation and fire mode leaves as it is: one lemma an operation,
field by field of the state. -/

namespace Sys2Proof.Machine

/-- What `addLoad` leaves as it is. -/
@[simp] theorem addLoad_frame (z n : Nat) (s : State) :
    (addLoad z n s).pending = s.pending ∧ (addLoad z n s).clock = s.clock ∧ (addLoad z n s).epoch = s.epoch ∧
      (addLoad z n s).draws = s.draws ∧ (addLoad z n s).phase = s.phase ∧ (addLoad z n s).ring = s.ring ∧
      (addLoad z n s).nodes = s.nodes ∧ (addLoad z n s).delivery = s.delivery ∧
      (addLoad z n s).air.sensors = s.air.sensors ∧ (addLoad z n s).air.evaluationTimer = s.air.evaluationTimer ∧
      (addLoad z n s).fans = s.fans ∧ (addLoad z n s).guide = s.guide ∧ (addLoad z n s).light = s.light ∧
      (addLoad z n s).faults = s.faults ∧ (addLoad z n s).fire = s.fire ∧ (addLoad z n s).mgmt = s.mgmt ∧
      (addLoad z n s).tables = s.tables ∧ (addLoad z n s).store = s.store := by
  simp [addLoad]

/-- What `recount` leaves as it is. -/
@[simp] theorem recount_frame  (s : State) :
    (recount s).pending = s.pending ∧ (recount s).clock = s.clock ∧ (recount s).epoch = s.epoch ∧
      (recount s).draws = s.draws ∧ (recount s).phase = s.phase ∧ (recount s).ring = s.ring ∧
      (recount s).nodes = s.nodes ∧ (recount s).delivery = s.delivery ∧ (recount s).air = s.air ∧
      (recount s).fans = s.fans ∧ (recount s).guide.bays = s.guide.bays ∧ (recount s).guide.signs = s.guide.signs ∧
      (recount s).guide.clusterFault = s.guide.clusterFault ∧ (recount s).light = s.light ∧
      (recount s).faults = s.faults ∧ (recount s).fire = s.fire ∧ (recount s).mgmt = s.mgmt ∧
      (recount s).tables = s.tables ∧ (recount s).store = s.store := by
  simp [recount]

/-- What `modLevel` leaves as it is. -/
@[simp] theorem modLevel_frame (l : Nat) (f : LevelRecord → LevelRecord) (s : State) :
    (modLevel l f s).pending = s.pending ∧ (modLevel l f s).clock = s.clock ∧ (modLevel l f s).epoch = s.epoch ∧
      (modLevel l f s).draws = s.draws ∧ (modLevel l f s).phase = s.phase ∧ (modLevel l f s).ring = s.ring ∧
      (modLevel l f s).nodes = s.nodes ∧ (modLevel l f s).delivery = s.delivery ∧ (modLevel l f s).air = s.air ∧
      (modLevel l f s).fans = s.fans ∧ (modLevel l f s).guide.bays = s.guide.bays ∧
      (modLevel l f s).guide.rowFree = s.guide.rowFree ∧ (modLevel l f s).guide.signs = s.guide.signs ∧
      (modLevel l f s).guide.clusterFault = s.guide.clusterFault ∧ (modLevel l f s).light = s.light ∧
      (modLevel l f s).faults = s.faults ∧ (modLevel l f s).fire = s.fire ∧ (modLevel l f s).mgmt = s.mgmt ∧
      (modLevel l f s).tables = s.tables ∧ (modLevel l f s).store = s.store := by
  simp [modLevel]

/-- What `ageLevel` leaves as it is. -/
@[simp] theorem ageLevel_frame (l : Nat) (s : State) :
    (ageLevel l s).pending = s.pending ∧ (ageLevel l s).clock = s.clock ∧ (ageLevel l s).epoch = s.epoch ∧
      (ageLevel l s).draws = s.draws ∧ (ageLevel l s).phase = s.phase ∧ (ageLevel l s).ring = s.ring ∧
      (ageLevel l s).nodes = s.nodes ∧ (ageLevel l s).delivery = s.delivery ∧ (ageLevel l s).air = s.air ∧
      (ageLevel l s).fans = s.fans ∧ (ageLevel l s).guide.bays = s.guide.bays ∧
      (ageLevel l s).guide.rowFree = s.guide.rowFree ∧ (ageLevel l s).guide.signs = s.guide.signs ∧
      (ageLevel l s).guide.clusterFault = s.guide.clusterFault ∧ (ageLevel l s).light = s.light ∧
      (ageLevel l s).faults = s.faults ∧ (ageLevel l s).fire = s.fire ∧ (ageLevel l s).mgmt = s.mgmt ∧
      (ageLevel l s).tables = s.tables ∧ (ageLevel l s).store = s.store := by
  simp [ageLevel]

/-- What `applyPulses` leaves as it is. -/
@[simp] theorem applyPulses_frame (e : LaneEntry) (i o : Nat) (s : State) :
    (applyPulses e i o s).pending = s.pending ∧ (applyPulses e i o s).clock = s.clock ∧
      (applyPulses e i o s).epoch = s.epoch ∧ (applyPulses e i o s).draws = s.draws ∧
      (applyPulses e i o s).phase = s.phase ∧ (applyPulses e i o s).ring = s.ring ∧
      (applyPulses e i o s).nodes = s.nodes ∧ (applyPulses e i o s).delivery = s.delivery ∧
      (applyPulses e i o s).air = s.air ∧ (applyPulses e i o s).fans = s.fans ∧
      (applyPulses e i o s).guide.bays = s.guide.bays ∧ (applyPulses e i o s).guide.rowFree = s.guide.rowFree ∧
      (applyPulses e i o s).guide.signs = s.guide.signs ∧
      (applyPulses e i o s).guide.clusterFault = s.guide.clusterFault ∧ (applyPulses e i o s).light = s.light ∧
      (applyPulses e i o s).faults = s.faults ∧ (applyPulses e i o s).fire = s.fire ∧
      (applyPulses e i o s).mgmt = s.mgmt ∧ (applyPulses e i o s).tables = s.tables ∧
      (applyPulses e i o s).store = s.store := by
  simp only [applyPulses]
  repeat' split
  all_goals simp

/-- What `modBay` leaves as it is. -/
@[simp] theorem modBay_frame (b : Nat) (f : BayRecord → BayRecord) (s : State) :
    (modBay b f s).pending = s.pending ∧ (modBay b f s).clock = s.clock ∧ (modBay b f s).epoch = s.epoch ∧
      (modBay b f s).draws = s.draws ∧ (modBay b f s).phase = s.phase ∧ (modBay b f s).ring = s.ring ∧
      (modBay b f s).nodes = s.nodes ∧ (modBay b f s).delivery = s.delivery ∧ (modBay b f s).air = s.air ∧
      (modBay b f s).fans = s.fans ∧ (modBay b f s).guide.rowFree = s.guide.rowFree ∧
      (modBay b f s).guide.levels = s.guide.levels ∧ (modBay b f s).guide.signs = s.guide.signs ∧
      (modBay b f s).guide.clusterFault = s.guide.clusterFault ∧ (modBay b f s).light = s.light ∧
      (modBay b f s).faults = s.faults ∧ (modBay b f s).fire = s.fire ∧ (modBay b f s).mgmt = s.mgmt ∧
      (modBay b f s).tables = s.tables ∧ (modBay b f s).store = s.store := by
  simp [modBay]

/-- What `bayVehicle` leaves as it is. -/
@[simp] theorem bayVehicle_frame (row : Nat) (s : State) :
    (bayVehicle row s).pending = s.pending ∧ (bayVehicle row s).clock = s.clock ∧
      (bayVehicle row s).epoch = s.epoch ∧ (bayVehicle row s).draws = s.draws ∧ (bayVehicle row s).phase = s.phase ∧
      (bayVehicle row s).ring = s.ring ∧ (bayVehicle row s).nodes = s.nodes ∧
      (bayVehicle row s).delivery = s.delivery ∧ (bayVehicle row s).air.sensors = s.air.sensors ∧
      (bayVehicle row s).air.evaluationTimer = s.air.evaluationTimer ∧ (bayVehicle row s).fans = s.fans ∧
      (bayVehicle row s).guide = s.guide ∧ (bayVehicle row s).light.stepTimer = s.light.stepTimer ∧
      (bayVehicle row s).faults = s.faults ∧ (bayVehicle row s).fire = s.fire ∧ (bayVehicle row s).mgmt = s.mgmt ∧
      (bayVehicle row s).tables = s.tables ∧ (bayVehicle row s).store = s.store := by
  simp [bayVehicle]

/-- What `settleBay` leaves as it is. -/
@[simp] theorem settleBay_frame (b : Nat) (new : SlotState) (s : State) :
    (settleBay b new s).pending = s.pending ∧ (settleBay b new s).clock = s.clock ∧
      (settleBay b new s).epoch = s.epoch ∧ (settleBay b new s).draws = s.draws ∧
      (settleBay b new s).phase = s.phase ∧ (settleBay b new s).ring = s.ring ∧ (settleBay b new s).nodes = s.nodes ∧
      (settleBay b new s).delivery = s.delivery ∧ (settleBay b new s).air.sensors = s.air.sensors ∧
      (settleBay b new s).air.evaluationTimer = s.air.evaluationTimer ∧ (settleBay b new s).fans = s.fans ∧
      (settleBay b new s).guide.signs = s.guide.signs ∧
      (settleBay b new s).guide.clusterFault = s.guide.clusterFault ∧
      (settleBay b new s).light.stepTimer = s.light.stepTimer ∧ (settleBay b new s).faults = s.faults ∧
      (settleBay b new s).fire = s.fire ∧ (settleBay b new s).mgmt = s.mgmt ∧ (settleBay b new s).tables = s.tables ∧
      (settleBay b new s).store = s.store := by
  simp only [settleBay]
  repeat' split
  all_goals simp

/-- What `reportBay` leaves as it is. -/
@[simp] theorem reportBay_frame (b : Nat) (x : SlotState) (s : State) :
    (reportBay b x s).pending = s.pending ∧ (reportBay b x s).clock = s.clock ∧ (reportBay b x s).epoch = s.epoch ∧
      (reportBay b x s).draws = s.draws ∧ (reportBay b x s).phase = s.phase ∧ (reportBay b x s).ring = s.ring ∧
      (reportBay b x s).nodes = s.nodes ∧ (reportBay b x s).delivery = s.delivery ∧
      (reportBay b x s).air.sensors = s.air.sensors ∧ (reportBay b x s).air.evaluationTimer = s.air.evaluationTimer ∧
      (reportBay b x s).fans = s.fans ∧ (reportBay b x s).guide.signs = s.guide.signs ∧
      (reportBay b x s).guide.clusterFault = s.guide.clusterFault ∧
      (reportBay b x s).light.stepTimer = s.light.stepTimer ∧ (reportBay b x s).faults = s.faults ∧
      (reportBay b x s).fire = s.fire ∧ (reportBay b x s).mgmt = s.mgmt ∧ (reportBay b x s).tables = s.tables ∧
      (reportBay b x s).store = s.store := by
  simp only [reportBay]
  repeat' split
  all_goals simp

/-- What `bayUnknown` leaves as it is. -/
@[simp] theorem bayUnknown_frame (b : Nat) (s : State) :
    (bayUnknown b s).pending = s.pending ∧ (bayUnknown b s).clock = s.clock ∧ (bayUnknown b s).epoch = s.epoch ∧
      (bayUnknown b s).draws = s.draws ∧ (bayUnknown b s).phase = s.phase ∧ (bayUnknown b s).ring = s.ring ∧
      (bayUnknown b s).nodes = s.nodes ∧ (bayUnknown b s).delivery = s.delivery ∧ (bayUnknown b s).air = s.air ∧
      (bayUnknown b s).fans = s.fans ∧ (bayUnknown b s).guide.rowFree = s.guide.rowFree ∧
      (bayUnknown b s).guide.levels = s.guide.levels ∧ (bayUnknown b s).guide.signs = s.guide.signs ∧
      (bayUnknown b s).guide.clusterFault = s.guide.clusterFault ∧ (bayUnknown b s).light = s.light ∧
      (bayUnknown b s).faults = s.faults ∧ (bayUnknown b s).fire = s.fire ∧ (bayUnknown b s).mgmt = s.mgmt ∧
      (bayUnknown b s).tables = s.tables ∧ (bayUnknown b s).store = s.store := by
  simp [bayUnknown]

/-- What `judgeCluster` leaves as it is. -/
@[simp] theorem judgeCluster_frame (i : Nat) (s : State) :
    (judgeCluster i s).pending = s.pending ∧ (judgeCluster i s).clock = s.clock ∧
      (judgeCluster i s).epoch = s.epoch ∧ (judgeCluster i s).draws = s.draws ∧ (judgeCluster i s).phase = s.phase ∧
      (judgeCluster i s).ring.ownAddress = s.ring.ownAddress ∧ (judgeCluster i s).ring.rate = s.ring.rate ∧
      (judgeCluster i s).ring.relayQueue = s.ring.relayQueue ∧ (judgeCluster i s).ring.runCount = s.ring.runCount ∧
      (judgeCluster i s).ring.relayed = s.ring.relayed ∧ (judgeCluster i s).ring.badCheck = s.ring.badCheck ∧
      (judgeCluster i s).ring.hopExpiry = s.ring.hopExpiry ∧ (judgeCluster i s).ring.relayFull = s.ring.relayFull ∧
      (judgeCluster i s).ring.ringSilent = s.ring.ringSilent ∧
      (judgeCluster i s).ring.silenceTimer = s.ring.silenceTimer ∧ (judgeCluster i s).ring.portB = s.ring.portB ∧
      (judgeCluster i s).nodes = s.nodes ∧ (judgeCluster i s).delivery.tagCounter = s.delivery.tagCounter ∧
      (judgeCluster i s).delivery.noTake = s.delivery.noTake ∧ (judgeCluster i s).air = s.air ∧
      (judgeCluster i s).guide.bays = s.guide.bays ∧ (judgeCluster i s).guide.rowFree = s.guide.rowFree ∧
      (judgeCluster i s).guide.levels = s.guide.levels ∧ (judgeCluster i s).light.stepTimer = s.light.stepTimer ∧
      (judgeCluster i s).faults.gasHigh = s.faults.gasHigh ∧
      (judgeCluster i s).faults.shortfall = s.faults.shortfall ∧
      (judgeCluster i s).faults.noticeNumber = s.faults.noticeNumber ∧ (judgeCluster i s).fire = s.fire ∧
      (judgeCluster i s).mgmt.queue = s.mgmt.queue ∧ (judgeCluster i s).mgmt.cursor = s.mgmt.cursor ∧
      (judgeCluster i s).mgmt.storeSender = s.mgmt.storeSender ∧
      (judgeCluster i s).mgmt.proxySender = s.mgmt.proxySender ∧
      (judgeCluster i s).mgmt.restartPending = s.mgmt.restartPending ∧ (judgeCluster i s).tables = s.tables ∧
      (judgeCluster i s).store = s.store := by
  simp only [judgeCluster]
  repeat' split
  all_goals simp

/-- What `reportBays` leaves as it is. -/
@[simp] theorem reportBays_frame (e : ClusterEntry) (l : List (Nat × SlotState)) (s : State) :
    (l.foldl (fun t p => reportBay (e.first + p.1) p.2 t) s).pending = s.pending ∧
      (l.foldl (fun t p => reportBay (e.first + p.1) p.2 t) s).clock = s.clock ∧
      (l.foldl (fun t p => reportBay (e.first + p.1) p.2 t) s).epoch = s.epoch ∧
      (l.foldl (fun t p => reportBay (e.first + p.1) p.2 t) s).draws = s.draws ∧
      (l.foldl (fun t p => reportBay (e.first + p.1) p.2 t) s).phase = s.phase ∧
      (l.foldl (fun t p => reportBay (e.first + p.1) p.2 t) s).ring = s.ring ∧
      (l.foldl (fun t p => reportBay (e.first + p.1) p.2 t) s).nodes = s.nodes ∧
      (l.foldl (fun t p => reportBay (e.first + p.1) p.2 t) s).delivery = s.delivery ∧
      (l.foldl (fun t p => reportBay (e.first + p.1) p.2 t) s).air.sensors = s.air.sensors ∧
      (l.foldl (fun t p => reportBay (e.first + p.1) p.2 t) s).air.evaluationTimer = s.air.evaluationTimer ∧
      (l.foldl (fun t p => reportBay (e.first + p.1) p.2 t) s).fans = s.fans ∧
      (l.foldl (fun t p => reportBay (e.first + p.1) p.2 t) s).guide.signs = s.guide.signs ∧
      (l.foldl (fun t p => reportBay (e.first + p.1) p.2 t) s).guide.clusterFault = s.guide.clusterFault ∧
      (l.foldl (fun t p => reportBay (e.first + p.1) p.2 t) s).light.stepTimer = s.light.stepTimer ∧
      (l.foldl (fun t p => reportBay (e.first + p.1) p.2 t) s).faults = s.faults ∧
      (l.foldl (fun t p => reportBay (e.first + p.1) p.2 t) s).fire = s.fire ∧
      (l.foldl (fun t p => reportBay (e.first + p.1) p.2 t) s).mgmt = s.mgmt ∧
      (l.foldl (fun t p => reportBay (e.first + p.1) p.2 t) s).tables = s.tables ∧
      (l.foldl (fun t p => reportBay (e.first + p.1) p.2 t) s).store = s.store := by
  refine foldl_frame (R := fun a b =>
    b.pending = a.pending ∧ b.clock = a.clock ∧ b.epoch = a.epoch ∧ b.draws = a.draws ∧ b.phase = a.phase ∧
    b.ring = a.ring ∧ b.nodes = a.nodes ∧ b.delivery = a.delivery ∧ b.air.sensors = a.air.sensors ∧
    b.air.evaluationTimer = a.air.evaluationTimer ∧ b.fans = a.fans ∧ b.guide.signs = a.guide.signs ∧
    b.guide.clusterFault = a.guide.clusterFault ∧ b.light.stepTimer = a.light.stepTimer ∧ b.faults = a.faults ∧
    b.fire = a.fire ∧ b.mgmt = a.mgmt ∧ b.tables = a.tables ∧ b.store = a.store) ?_ ?_ ?_ l s
  · intro t; simp
  · intro a b c h1 h2; simp_all
  · intro i t; simp

/-- What `clusterReport` leaves as it is. -/
@[simp] theorem clusterReport_frame (i : Nat) (l : List SlotState) (s : State) :
    (clusterReport i l s).pending = s.pending ∧ (clusterReport i l s).clock = s.clock ∧
      (clusterReport i l s).epoch = s.epoch ∧ (clusterReport i l s).draws = s.draws ∧
      (clusterReport i l s).phase = s.phase ∧ (clusterReport i l s).ring.ownAddress = s.ring.ownAddress ∧
      (clusterReport i l s).ring.rate = s.ring.rate ∧ (clusterReport i l s).ring.relayQueue = s.ring.relayQueue ∧
      (clusterReport i l s).ring.runCount = s.ring.runCount ∧ (clusterReport i l s).ring.relayed = s.ring.relayed ∧
      (clusterReport i l s).ring.badCheck = s.ring.badCheck ∧
      (clusterReport i l s).ring.hopExpiry = s.ring.hopExpiry ∧
      (clusterReport i l s).ring.relayFull = s.ring.relayFull ∧
      (clusterReport i l s).ring.ringSilent = s.ring.ringSilent ∧
      (clusterReport i l s).ring.silenceTimer = s.ring.silenceTimer ∧
      (clusterReport i l s).ring.portB = s.ring.portB ∧ (clusterReport i l s).nodes = s.nodes ∧
      (clusterReport i l s).delivery.tagCounter = s.delivery.tagCounter ∧
      (clusterReport i l s).delivery.noTake = s.delivery.noTake ∧ (clusterReport i l s).air.sensors = s.air.sensors ∧
      (clusterReport i l s).air.evaluationTimer = s.air.evaluationTimer ∧
      (clusterReport i l s).light.stepTimer = s.light.stepTimer ∧
      (clusterReport i l s).faults.gasHigh = s.faults.gasHigh ∧
      (clusterReport i l s).faults.shortfall = s.faults.shortfall ∧
      (clusterReport i l s).faults.noticeNumber = s.faults.noticeNumber ∧ (clusterReport i l s).fire = s.fire ∧
      (clusterReport i l s).mgmt.queue = s.mgmt.queue ∧ (clusterReport i l s).mgmt.cursor = s.mgmt.cursor ∧
      (clusterReport i l s).mgmt.storeSender = s.mgmt.storeSender ∧
      (clusterReport i l s).mgmt.proxySender = s.mgmt.proxySender ∧
      (clusterReport i l s).mgmt.restartPending = s.mgmt.restartPending ∧ (clusterReport i l s).tables = s.tables ∧
      (clusterReport i l s).store = s.store := by
  simp [clusterReport]

/-- What `baysUnknown` leaves as it is. -/
@[simp] theorem baysUnknown_frame (l : List Nat) (s : State) :
    (forList l bayUnknown s).pending = s.pending ∧ (forList l bayUnknown s).clock = s.clock ∧
      (forList l bayUnknown s).epoch = s.epoch ∧ (forList l bayUnknown s).draws = s.draws ∧
      (forList l bayUnknown s).phase = s.phase ∧ (forList l bayUnknown s).ring = s.ring ∧
      (forList l bayUnknown s).nodes = s.nodes ∧ (forList l bayUnknown s).delivery = s.delivery ∧
      (forList l bayUnknown s).air = s.air ∧ (forList l bayUnknown s).fans = s.fans ∧
      (forList l bayUnknown s).guide.rowFree = s.guide.rowFree ∧
      (forList l bayUnknown s).guide.levels = s.guide.levels ∧ (forList l bayUnknown s).guide.signs = s.guide.signs ∧
      (forList l bayUnknown s).guide.clusterFault = s.guide.clusterFault ∧ (forList l bayUnknown s).light = s.light ∧
      (forList l bayUnknown s).faults = s.faults ∧ (forList l bayUnknown s).fire = s.fire ∧
      (forList l bayUnknown s).mgmt = s.mgmt ∧ (forList l bayUnknown s).tables = s.tables ∧
      (forList l bayUnknown s).store = s.store := by
  refine forList_frame (R := fun a b =>
    b.pending = a.pending ∧ b.clock = a.clock ∧ b.epoch = a.epoch ∧ b.draws = a.draws ∧ b.phase = a.phase ∧
    b.ring = a.ring ∧ b.nodes = a.nodes ∧ b.delivery = a.delivery ∧ b.air = a.air ∧ b.fans = a.fans ∧
    b.guide.rowFree = a.guide.rowFree ∧ b.guide.levels = a.guide.levels ∧ b.guide.signs = a.guide.signs ∧
    b.guide.clusterFault = a.guide.clusterFault ∧ b.light = a.light ∧ b.faults = a.faults ∧ b.fire = a.fire ∧
    b.mgmt = a.mgmt ∧ b.tables = a.tables ∧ b.store = a.store) ?_ ?_ ?_ l s
  · intro t; simp
  · intro a b c h1 h2; simp_all
  · intro i t; simp

/-- What `clusterSilent` leaves as it is. -/
@[simp] theorem clusterSilent_frame (i : Nat) (s : State) :
    (clusterSilent i s).pending = s.pending ∧ (clusterSilent i s).clock = s.clock ∧
      (clusterSilent i s).epoch = s.epoch ∧ (clusterSilent i s).draws = s.draws ∧
      (clusterSilent i s).phase = s.phase ∧ (clusterSilent i s).ring = s.ring ∧ (clusterSilent i s).nodes = s.nodes ∧
      (clusterSilent i s).delivery = s.delivery ∧ (clusterSilent i s).air = s.air ∧
      (clusterSilent i s).fans = s.fans ∧ (clusterSilent i s).guide.signs = s.guide.signs ∧
      (clusterSilent i s).guide.clusterFault = s.guide.clusterFault ∧ (clusterSilent i s).light = s.light ∧
      (clusterSilent i s).faults = s.faults ∧ (clusterSilent i s).fire = s.fire ∧ (clusterSilent i s).mgmt = s.mgmt ∧
      (clusterSilent i s).tables = s.tables ∧ (clusterSilent i s).store = s.store := by
  simp [clusterSilent]

/-- What `modReasons` leaves as it is. -/
@[simp] theorem modReasons_frame (l : Nat) (f : Reasons → Reasons) (s : State) :
    (modReasons l f s).pending = s.pending ∧ (modReasons l f s).clock = s.clock ∧
      (modReasons l f s).epoch = s.epoch ∧ (modReasons l f s).draws = s.draws ∧ (modReasons l f s).phase = s.phase ∧
      (modReasons l f s).ring = s.ring ∧ (modReasons l f s).nodes = s.nodes ∧
      (modReasons l f s).delivery = s.delivery ∧ (modReasons l f s).air = s.air ∧ (modReasons l f s).fans = s.fans ∧
      (modReasons l f s).guide.bays = s.guide.bays ∧ (modReasons l f s).guide.rowFree = s.guide.rowFree ∧
      (modReasons l f s).guide.signs = s.guide.signs ∧ (modReasons l f s).guide.clusterFault = s.guide.clusterFault ∧
      (modReasons l f s).light = s.light ∧ (modReasons l f s).faults = s.faults ∧ (modReasons l f s).fire = s.fire ∧
      (modReasons l f s).mgmt = s.mgmt ∧ (modReasons l f s).tables = s.tables ∧
      (modReasons l f s).store = s.store := by
  simp [modReasons]

/-- What `judgeShortfall` leaves as it is. -/
@[simp] theorem judgeShortfall_frame  (s : State) :
    (judgeShortfall s).pending = s.pending ∧ (judgeShortfall s).clock = s.clock ∧
      (judgeShortfall s).epoch = s.epoch ∧ (judgeShortfall s).draws = s.draws ∧ (judgeShortfall s).phase = s.phase ∧
      (judgeShortfall s).ring = s.ring ∧ (judgeShortfall s).nodes = s.nodes ∧
      (judgeShortfall s).delivery = s.delivery ∧ (judgeShortfall s).air = s.air ∧ (judgeShortfall s).fans = s.fans ∧
      (judgeShortfall s).guide.bays = s.guide.bays ∧ (judgeShortfall s).guide.rowFree = s.guide.rowFree ∧
      (judgeShortfall s).guide.signs = s.guide.signs ∧ (judgeShortfall s).guide.clusterFault = s.guide.clusterFault ∧
      (judgeShortfall s).light = s.light ∧ (judgeShortfall s).faults = s.faults ∧ (judgeShortfall s).fire = s.fire ∧
      (judgeShortfall s).mgmt = s.mgmt ∧ (judgeShortfall s).tables = s.tables ∧
      (judgeShortfall s).store = s.store := by
  unfold judgeShortfall
  refine forEach_frame (R := fun a b =>
    b.pending = a.pending ∧ b.clock = a.clock ∧ b.epoch = a.epoch ∧ b.draws = a.draws ∧ b.phase = a.phase ∧
    b.ring = a.ring ∧ b.nodes = a.nodes ∧ b.delivery = a.delivery ∧ b.air = a.air ∧ b.fans = a.fans ∧
    b.guide.bays = a.guide.bays ∧ b.guide.rowFree = a.guide.rowFree ∧ b.guide.signs = a.guide.signs ∧
    b.guide.clusterFault = a.guide.clusterFault ∧ b.light = a.light ∧ b.faults = a.faults ∧ b.fire = a.fire ∧
    b.mgmt = a.mgmt ∧ b.tables = a.tables ∧ b.store = a.store) ?_ ?_ ?_ _ _
  · intro t; simp
  · intro a b c h1 h2; simp_all
  · intro i t; simp

/-- What `judgeAirLevel` leaves as it is. -/
@[simp] theorem judgeAirLevel_frame (l : Nat) (s : State) :
    (judgeAirLevel l s).pending = s.pending ∧ (judgeAirLevel l s).clock = s.clock ∧
      (judgeAirLevel l s).epoch = s.epoch ∧ (judgeAirLevel l s).draws = s.draws ∧
      (judgeAirLevel l s).phase = s.phase ∧ (judgeAirLevel l s).ring = s.ring ∧ (judgeAirLevel l s).nodes = s.nodes ∧
      (judgeAirLevel l s).delivery = s.delivery ∧ (judgeAirLevel l s).air = s.air ∧
      (judgeAirLevel l s).fans = s.fans ∧ (judgeAirLevel l s).guide.bays = s.guide.bays ∧
      (judgeAirLevel l s).guide.rowFree = s.guide.rowFree ∧ (judgeAirLevel l s).guide.signs = s.guide.signs ∧
      (judgeAirLevel l s).guide.clusterFault = s.guide.clusterFault ∧ (judgeAirLevel l s).light = s.light ∧
      (judgeAirLevel l s).faults = s.faults ∧ (judgeAirLevel l s).fire = s.fire ∧ (judgeAirLevel l s).mgmt = s.mgmt ∧
      (judgeAirLevel l s).tables = s.tables ∧ (judgeAirLevel l s).store = s.store := by
  simp only [judgeAirLevel]
  repeat' split
  all_goals simp

/-- What `judgeAirLevels` leaves as it is. -/
@[simp] theorem judgeAirLevels_frame  (s : State) :
    (forEach 8 judgeAirLevel s).pending = s.pending ∧ (forEach 8 judgeAirLevel s).clock = s.clock ∧
      (forEach 8 judgeAirLevel s).epoch = s.epoch ∧ (forEach 8 judgeAirLevel s).draws = s.draws ∧
      (forEach 8 judgeAirLevel s).phase = s.phase ∧ (forEach 8 judgeAirLevel s).ring = s.ring ∧
      (forEach 8 judgeAirLevel s).nodes = s.nodes ∧ (forEach 8 judgeAirLevel s).delivery = s.delivery ∧
      (forEach 8 judgeAirLevel s).air = s.air ∧ (forEach 8 judgeAirLevel s).fans = s.fans ∧
      (forEach 8 judgeAirLevel s).guide.bays = s.guide.bays ∧
      (forEach 8 judgeAirLevel s).guide.rowFree = s.guide.rowFree ∧
      (forEach 8 judgeAirLevel s).guide.signs = s.guide.signs ∧
      (forEach 8 judgeAirLevel s).guide.clusterFault = s.guide.clusterFault ∧
      (forEach 8 judgeAirLevel s).light = s.light ∧ (forEach 8 judgeAirLevel s).faults = s.faults ∧
      (forEach 8 judgeAirLevel s).fire = s.fire ∧ (forEach 8 judgeAirLevel s).mgmt = s.mgmt ∧
      (forEach 8 judgeAirLevel s).tables = s.tables ∧ (forEach 8 judgeAirLevel s).store = s.store := by
  refine forEach_frame (R := fun a b =>
    b.pending = a.pending ∧ b.clock = a.clock ∧ b.epoch = a.epoch ∧ b.draws = a.draws ∧ b.phase = a.phase ∧
    b.ring = a.ring ∧ b.nodes = a.nodes ∧ b.delivery = a.delivery ∧ b.air = a.air ∧ b.fans = a.fans ∧
    b.guide.bays = a.guide.bays ∧ b.guide.rowFree = a.guide.rowFree ∧ b.guide.signs = a.guide.signs ∧
    b.guide.clusterFault = a.guide.clusterFault ∧ b.light = a.light ∧ b.faults = a.faults ∧ b.fire = a.fire ∧
    b.mgmt = a.mgmt ∧ b.tables = a.tables ∧ b.store = a.store) ?_ ?_ ?_ _ _
  · intro t; simp
  · intro a b c h1 h2; simp_all
  · intro i t; simp

/-- What `judgeClosure` leaves as it is. -/
@[simp] theorem judgeClosure_frame  (s : State) :
    (judgeClosure s).pending = s.pending ∧ (judgeClosure s).clock = s.clock ∧ (judgeClosure s).epoch = s.epoch ∧
      (judgeClosure s).draws = s.draws ∧ (judgeClosure s).phase = s.phase ∧ (judgeClosure s).ring = s.ring ∧
      (judgeClosure s).nodes = s.nodes ∧ (judgeClosure s).delivery = s.delivery ∧ (judgeClosure s).air = s.air ∧
      (judgeClosure s).fans = s.fans ∧ (judgeClosure s).guide.bays = s.guide.bays ∧
      (judgeClosure s).guide.rowFree = s.guide.rowFree ∧ (judgeClosure s).guide.signs = s.guide.signs ∧
      (judgeClosure s).guide.clusterFault = s.guide.clusterFault ∧ (judgeClosure s).light = s.light ∧
      (judgeClosure s).faults = s.faults ∧ (judgeClosure s).fire = s.fire ∧ (judgeClosure s).mgmt = s.mgmt ∧
      (judgeClosure s).tables = s.tables ∧ (judgeClosure s).store = s.store := by
  simp [judgeClosure]

/-- What `forceSigns` leaves as it is. -/
@[simp] theorem forceSigns_frame  (s : State) :
    (forEach 48 forceSign s).pending = s.pending ∧ (forEach 48 forceSign s).clock = s.clock ∧
      (forEach 48 forceSign s).epoch = s.epoch ∧ (forEach 48 forceSign s).draws = s.draws ∧
      (forEach 48 forceSign s).phase = s.phase ∧ (forEach 48 forceSign s).ring.ownAddress = s.ring.ownAddress ∧
      (forEach 48 forceSign s).ring.rate = s.ring.rate ∧
      (forEach 48 forceSign s).ring.relayQueue = s.ring.relayQueue ∧
      (forEach 48 forceSign s).ring.runCount = s.ring.runCount ∧
      (forEach 48 forceSign s).ring.relayed = s.ring.relayed ∧
      (forEach 48 forceSign s).ring.badCheck = s.ring.badCheck ∧
      (forEach 48 forceSign s).ring.hopExpiry = s.ring.hopExpiry ∧
      (forEach 48 forceSign s).ring.relayFull = s.ring.relayFull ∧
      (forEach 48 forceSign s).ring.ringSilent = s.ring.ringSilent ∧
      (forEach 48 forceSign s).ring.silenceTimer = s.ring.silenceTimer ∧
      (forEach 48 forceSign s).ring.portB = s.ring.portB ∧ (forEach 48 forceSign s).nodes = s.nodes ∧
      (forEach 48 forceSign s).delivery.tagCounter = s.delivery.tagCounter ∧
      (forEach 48 forceSign s).delivery.proxy = s.delivery.proxy ∧
      (forEach 48 forceSign s).delivery.noTake = s.delivery.noTake ∧ (forEach 48 forceSign s).air = s.air ∧
      (forEach 48 forceSign s).fans = s.fans ∧ (forEach 48 forceSign s).guide.bays = s.guide.bays ∧
      (forEach 48 forceSign s).guide.rowFree = s.guide.rowFree ∧
      (forEach 48 forceSign s).guide.levels = s.guide.levels ∧
      (forEach 48 forceSign s).guide.clusterFault = s.guide.clusterFault ∧ (forEach 48 forceSign s).light = s.light ∧
      (forEach 48 forceSign s).faults = s.faults ∧ (forEach 48 forceSign s).fire = s.fire ∧
      (forEach 48 forceSign s).mgmt = s.mgmt ∧ (forEach 48 forceSign s).tables = s.tables ∧
      (forEach 48 forceSign s).store = s.store := by
  refine forEach_frame (R := fun a b =>
    b.pending = a.pending ∧ b.clock = a.clock ∧ b.epoch = a.epoch ∧ b.draws = a.draws ∧ b.phase = a.phase ∧
    b.ring.ownAddress = a.ring.ownAddress ∧ b.ring.rate = a.ring.rate ∧ b.ring.relayQueue = a.ring.relayQueue ∧
    b.ring.runCount = a.ring.runCount ∧ b.ring.relayed = a.ring.relayed ∧ b.ring.badCheck = a.ring.badCheck ∧
    b.ring.hopExpiry = a.ring.hopExpiry ∧ b.ring.relayFull = a.ring.relayFull ∧
    b.ring.ringSilent = a.ring.ringSilent ∧ b.ring.silenceTimer = a.ring.silenceTimer ∧
    b.ring.portB = a.ring.portB ∧ b.nodes = a.nodes ∧ b.delivery.tagCounter = a.delivery.tagCounter ∧
    b.delivery.proxy = a.delivery.proxy ∧ b.delivery.noTake = a.delivery.noTake ∧ b.air = a.air ∧ b.fans = a.fans ∧
    b.guide.bays = a.guide.bays ∧ b.guide.rowFree = a.guide.rowFree ∧ b.guide.levels = a.guide.levels ∧
    b.guide.clusterFault = a.guide.clusterFault ∧ b.light = a.light ∧ b.faults = a.faults ∧ b.fire = a.fire ∧
    b.mgmt = a.mgmt ∧ b.tables = a.tables ∧ b.store = a.store) ?_ ?_ ?_ _ _
  · intro t; simp
  · intro a b c h1 h2; simp_all
  · intro i t; simp

/-- What `fireReasons` leaves as it is. -/
@[simp] theorem fireReasons_frame (on : Bool) (s : State) :
    (forEach 8 (fun l t => modReasons l (fun r => { r with fire := on }) t) s).pending = s.pending ∧
      (forEach 8 (fun l t => modReasons l (fun r => { r with fire := on }) t) s).clock = s.clock ∧
      (forEach 8 (fun l t => modReasons l (fun r => { r with fire := on }) t) s).epoch = s.epoch ∧
      (forEach 8 (fun l t => modReasons l (fun r => { r with fire := on }) t) s).draws = s.draws ∧
      (forEach 8 (fun l t => modReasons l (fun r => { r with fire := on }) t) s).phase = s.phase ∧
      (forEach 8 (fun l t => modReasons l (fun r => { r with fire := on }) t) s).ring = s.ring ∧
      (forEach 8 (fun l t => modReasons l (fun r => { r with fire := on }) t) s).nodes = s.nodes ∧
      (forEach 8 (fun l t => modReasons l (fun r => { r with fire := on }) t) s).delivery = s.delivery ∧
      (forEach 8 (fun l t => modReasons l (fun r => { r with fire := on }) t) s).air = s.air ∧
      (forEach 8 (fun l t => modReasons l (fun r => { r with fire := on }) t) s).fans = s.fans ∧
      (forEach 8 (fun l t => modReasons l (fun r => { r with fire := on }) t) s).guide.bays = s.guide.bays ∧
      (forEach 8 (fun l t => modReasons l (fun r => { r with fire := on }) t) s).guide.rowFree = s.guide.rowFree ∧
      (forEach 8 (fun l t => modReasons l (fun r => { r with fire := on }) t) s).guide.signs = s.guide.signs ∧
      (forEach 8 (fun l t => modReasons l (fun r => { r with fire := on }) t) s).guide.clusterFault = s.guide.clusterFault ∧
      (forEach 8 (fun l t => modReasons l (fun r => { r with fire := on }) t) s).light = s.light ∧
      (forEach 8 (fun l t => modReasons l (fun r => { r with fire := on }) t) s).faults = s.faults ∧
      (forEach 8 (fun l t => modReasons l (fun r => { r with fire := on }) t) s).fire = s.fire ∧
      (forEach 8 (fun l t => modReasons l (fun r => { r with fire := on }) t) s).mgmt = s.mgmt ∧
      (forEach 8 (fun l t => modReasons l (fun r => { r with fire := on }) t) s).tables = s.tables ∧
      (forEach 8 (fun l t => modReasons l (fun r => { r with fire := on }) t) s).store = s.store := by
  refine forEach_frame (R := fun a b =>
    b.pending = a.pending ∧ b.clock = a.clock ∧ b.epoch = a.epoch ∧ b.draws = a.draws ∧ b.phase = a.phase ∧
    b.ring = a.ring ∧ b.nodes = a.nodes ∧ b.delivery = a.delivery ∧ b.air = a.air ∧ b.fans = a.fans ∧
    b.guide.bays = a.guide.bays ∧ b.guide.rowFree = a.guide.rowFree ∧ b.guide.signs = a.guide.signs ∧
    b.guide.clusterFault = a.guide.clusterFault ∧ b.light = a.light ∧ b.faults = a.faults ∧ b.fire = a.fire ∧
    b.mgmt = a.mgmt ∧ b.tables = a.tables ∧ b.store = a.store) ?_ ?_ ?_ _ _
  · intro t; simp
  · intro a b c h1 h2; simp_all
  · intro i t; simp

/-- What `guideFireEntry` leaves as it is. -/
@[simp] theorem guideFireEntry_frame  (s : State) :
    (guideFireEntry s).pending = s.pending ∧ (guideFireEntry s).clock = s.clock ∧
      (guideFireEntry s).epoch = s.epoch ∧ (guideFireEntry s).draws = s.draws ∧ (guideFireEntry s).phase = s.phase ∧
      (guideFireEntry s).ring.ownAddress = s.ring.ownAddress ∧ (guideFireEntry s).ring.rate = s.ring.rate ∧
      (guideFireEntry s).ring.relayQueue = s.ring.relayQueue ∧ (guideFireEntry s).ring.runCount = s.ring.runCount ∧
      (guideFireEntry s).ring.relayed = s.ring.relayed ∧ (guideFireEntry s).ring.badCheck = s.ring.badCheck ∧
      (guideFireEntry s).ring.hopExpiry = s.ring.hopExpiry ∧ (guideFireEntry s).ring.relayFull = s.ring.relayFull ∧
      (guideFireEntry s).ring.ringSilent = s.ring.ringSilent ∧
      (guideFireEntry s).ring.silenceTimer = s.ring.silenceTimer ∧ (guideFireEntry s).ring.portB = s.ring.portB ∧
      (guideFireEntry s).nodes = s.nodes ∧ (guideFireEntry s).delivery.tagCounter = s.delivery.tagCounter ∧
      (guideFireEntry s).delivery.proxy = s.delivery.proxy ∧ (guideFireEntry s).delivery.noTake = s.delivery.noTake ∧
      (guideFireEntry s).air = s.air ∧ (guideFireEntry s).fans = s.fans ∧
      (guideFireEntry s).guide.bays = s.guide.bays ∧ (guideFireEntry s).guide.rowFree = s.guide.rowFree ∧
      (guideFireEntry s).guide.clusterFault = s.guide.clusterFault ∧ (guideFireEntry s).light = s.light ∧
      (guideFireEntry s).faults = s.faults ∧ (guideFireEntry s).fire = s.fire ∧ (guideFireEntry s).mgmt = s.mgmt ∧
      (guideFireEntry s).tables = s.tables ∧ (guideFireEntry s).store = s.store := by
  simp [guideFireEntry]

/-- What `guideFireExit` leaves as it is. -/
@[simp] theorem guideFireExit_frame  (s : State) :
    (guideFireExit s).pending = s.pending ∧ (guideFireExit s).clock = s.clock ∧ (guideFireExit s).epoch = s.epoch ∧
      (guideFireExit s).draws = s.draws ∧ (guideFireExit s).phase = s.phase ∧
      (guideFireExit s).ring.ownAddress = s.ring.ownAddress ∧ (guideFireExit s).ring.rate = s.ring.rate ∧
      (guideFireExit s).ring.relayQueue = s.ring.relayQueue ∧ (guideFireExit s).ring.runCount = s.ring.runCount ∧
      (guideFireExit s).ring.relayed = s.ring.relayed ∧ (guideFireExit s).ring.badCheck = s.ring.badCheck ∧
      (guideFireExit s).ring.hopExpiry = s.ring.hopExpiry ∧ (guideFireExit s).ring.relayFull = s.ring.relayFull ∧
      (guideFireExit s).ring.ringSilent = s.ring.ringSilent ∧
      (guideFireExit s).ring.silenceTimer = s.ring.silenceTimer ∧ (guideFireExit s).ring.portB = s.ring.portB ∧
      (guideFireExit s).nodes = s.nodes ∧ (guideFireExit s).delivery.tagCounter = s.delivery.tagCounter ∧
      (guideFireExit s).delivery.proxy = s.delivery.proxy ∧ (guideFireExit s).delivery.noTake = s.delivery.noTake ∧
      (guideFireExit s).air = s.air ∧ (guideFireExit s).fans = s.fans ∧ (guideFireExit s).guide.bays = s.guide.bays ∧
      (guideFireExit s).guide.rowFree = s.guide.rowFree ∧
      (guideFireExit s).guide.clusterFault = s.guide.clusterFault ∧ (guideFireExit s).light = s.light ∧
      (guideFireExit s).faults = s.faults ∧ (guideFireExit s).fire = s.fire ∧ (guideFireExit s).mgmt = s.mgmt ∧
      (guideFireExit s).tables = s.tables ∧ (guideFireExit s).store = s.store := by
  simp [guideFireExit]

/-- What `gasReport` leaves as it is. -/
@[simp] theorem gasReport_frame (i : Nat) (x : GasReport) (first : Bool) (s : State) :
    (gasReport i x first s).pending = s.pending ∧ (gasReport i x first s).clock = s.clock ∧
      (gasReport i x first s).epoch = s.epoch ∧ (gasReport i x first s).draws = s.draws ∧
      (gasReport i x first s).phase = s.phase ∧ (gasReport i x first s).ring = s.ring ∧
      (gasReport i x first s).nodes = s.nodes ∧ (gasReport i x first s).delivery = s.delivery ∧
      (gasReport i x first s).air.zones = s.air.zones ∧
      (gasReport i x first s).air.evaluationTimer = s.air.evaluationTimer ∧ (gasReport i x first s).fans = s.fans ∧
      (gasReport i x first s).guide = s.guide ∧ (gasReport i x first s).light = s.light ∧
      (gasReport i x first s).faults = s.faults ∧ (gasReport i x first s).fire = s.fire ∧
      (gasReport i x first s).mgmt = s.mgmt ∧ (gasReport i x first s).tables = s.tables ∧
      (gasReport i x first s).store = s.store := by
  simp [gasReport]

/-- What `modZone` leaves as it is. -/
@[simp] theorem modZone_frame (z : Nat) (f : ZoneRecord → ZoneRecord) (s : State) :
    (modZone z f s).pending = s.pending ∧ (modZone z f s).clock = s.clock ∧ (modZone z f s).epoch = s.epoch ∧
      (modZone z f s).draws = s.draws ∧ (modZone z f s).phase = s.phase ∧ (modZone z f s).ring = s.ring ∧
      (modZone z f s).nodes = s.nodes ∧ (modZone z f s).delivery = s.delivery ∧
      (modZone z f s).air.sensors = s.air.sensors ∧ (modZone z f s).air.evaluationTimer = s.air.evaluationTimer ∧
      (modZone z f s).fans = s.fans ∧ (modZone z f s).guide = s.guide ∧ (modZone z f s).light = s.light ∧
      (modZone z f s).faults = s.faults ∧ (modZone z f s).fire = s.fire ∧ (modZone z f s).mgmt = s.mgmt ∧
      (modZone z f s).tables = s.tables ∧ (modZone z f s).store = s.store := by
  simp [modZone]

/-- What `faultsShortfall` leaves as it is. -/
@[simp] theorem faultsShortfall_frame (z : Nat) (on : Bool) (s : State) :
    (faultsShortfall z on s).pending = s.pending ∧ (faultsShortfall z on s).clock = s.clock ∧
      (faultsShortfall z on s).epoch = s.epoch ∧ (faultsShortfall z on s).draws = s.draws ∧
      (faultsShortfall z on s).phase = s.phase ∧ (faultsShortfall z on s).ring.ownAddress = s.ring.ownAddress ∧
      (faultsShortfall z on s).ring.rate = s.ring.rate ∧
      (faultsShortfall z on s).ring.relayQueue = s.ring.relayQueue ∧
      (faultsShortfall z on s).ring.runCount = s.ring.runCount ∧
      (faultsShortfall z on s).ring.relayed = s.ring.relayed ∧
      (faultsShortfall z on s).ring.badCheck = s.ring.badCheck ∧
      (faultsShortfall z on s).ring.hopExpiry = s.ring.hopExpiry ∧
      (faultsShortfall z on s).ring.relayFull = s.ring.relayFull ∧
      (faultsShortfall z on s).ring.ringSilent = s.ring.ringSilent ∧
      (faultsShortfall z on s).ring.silenceTimer = s.ring.silenceTimer ∧
      (faultsShortfall z on s).ring.portB = s.ring.portB ∧ (faultsShortfall z on s).nodes = s.nodes ∧
      (faultsShortfall z on s).delivery = s.delivery ∧ (faultsShortfall z on s).air = s.air ∧
      (faultsShortfall z on s).fans = s.fans ∧ (faultsShortfall z on s).guide = s.guide ∧
      (faultsShortfall z on s).light = s.light ∧ (faultsShortfall z on s).faults.list = s.faults.list ∧
      (faultsShortfall z on s).faults.gasHigh = s.faults.gasHigh ∧
      (faultsShortfall z on s).faults.noticeNumber = s.faults.noticeNumber ∧ (faultsShortfall z on s).fire = s.fire ∧
      (faultsShortfall z on s).mgmt = s.mgmt ∧ (faultsShortfall z on s).tables = s.tables ∧
      (faultsShortfall z on s).store = s.store := by
  simp only [faultsShortfall]
  repeat' split
  all_goals simp

/-- What `setShortfall` leaves as it is. -/
@[simp] theorem setShortfall_frame (z : Nat) (on : Bool) (s : State) :
    (setShortfall z on s).pending = s.pending ∧ (setShortfall z on s).clock = s.clock ∧
      (setShortfall z on s).epoch = s.epoch ∧ (setShortfall z on s).draws = s.draws ∧
      (setShortfall z on s).phase = s.phase ∧ (setShortfall z on s).ring.ownAddress = s.ring.ownAddress ∧
      (setShortfall z on s).ring.rate = s.ring.rate ∧ (setShortfall z on s).ring.relayQueue = s.ring.relayQueue ∧
      (setShortfall z on s).ring.runCount = s.ring.runCount ∧ (setShortfall z on s).ring.relayed = s.ring.relayed ∧
      (setShortfall z on s).ring.badCheck = s.ring.badCheck ∧
      (setShortfall z on s).ring.hopExpiry = s.ring.hopExpiry ∧
      (setShortfall z on s).ring.relayFull = s.ring.relayFull ∧
      (setShortfall z on s).ring.ringSilent = s.ring.ringSilent ∧
      (setShortfall z on s).ring.silenceTimer = s.ring.silenceTimer ∧
      (setShortfall z on s).ring.portB = s.ring.portB ∧ (setShortfall z on s).nodes = s.nodes ∧
      (setShortfall z on s).delivery = s.delivery ∧ (setShortfall z on s).air.sensors = s.air.sensors ∧
      (setShortfall z on s).air.evaluationTimer = s.air.evaluationTimer ∧ (setShortfall z on s).fans = s.fans ∧
      (setShortfall z on s).guide.bays = s.guide.bays ∧ (setShortfall z on s).guide.rowFree = s.guide.rowFree ∧
      (setShortfall z on s).guide.signs = s.guide.signs ∧
      (setShortfall z on s).guide.clusterFault = s.guide.clusterFault ∧
      (setShortfall z on s).light.stepTimer = s.light.stepTimer ∧ (setShortfall z on s).faults.list = s.faults.list ∧
      (setShortfall z on s).faults.gasHigh = s.faults.gasHigh ∧
      (setShortfall z on s).faults.noticeNumber = s.faults.noticeNumber ∧ (setShortfall z on s).fire = s.fire ∧
      (setShortfall z on s).mgmt = s.mgmt ∧ (setShortfall z on s).tables = s.tables ∧
      (setShortfall z on s).store = s.store := by
  simp only [setShortfall]
  repeat' split
  all_goals simp

/-- What `allocateFan` leaves as it is. -/
@[simp] theorem allocateFan_frame (sp i : Nat) (s : State) :
    (allocateFan sp i s).pending = s.pending ∧ (allocateFan sp i s).clock = s.clock ∧
      (allocateFan sp i s).epoch = s.epoch ∧ (allocateFan sp i s).draws = s.draws ∧
      (allocateFan sp i s).phase = s.phase ∧ (allocateFan sp i s).ring.ownAddress = s.ring.ownAddress ∧
      (allocateFan sp i s).ring.rate = s.ring.rate ∧ (allocateFan sp i s).ring.relayQueue = s.ring.relayQueue ∧
      (allocateFan sp i s).ring.runCount = s.ring.runCount ∧ (allocateFan sp i s).ring.relayed = s.ring.relayed ∧
      (allocateFan sp i s).ring.badCheck = s.ring.badCheck ∧ (allocateFan sp i s).ring.hopExpiry = s.ring.hopExpiry ∧
      (allocateFan sp i s).ring.relayFull = s.ring.relayFull ∧
      (allocateFan sp i s).ring.ringSilent = s.ring.ringSilent ∧
      (allocateFan sp i s).ring.silenceTimer = s.ring.silenceTimer ∧ (allocateFan sp i s).ring.portB = s.ring.portB ∧
      (allocateFan sp i s).nodes = s.nodes ∧ (allocateFan sp i s).delivery.tagCounter = s.delivery.tagCounter ∧
      (allocateFan sp i s).delivery.proxy = s.delivery.proxy ∧
      (allocateFan sp i s).delivery.noTake = s.delivery.noTake ∧ (allocateFan sp i s).air = s.air ∧
      (allocateFan sp i s).guide = s.guide ∧ (allocateFan sp i s).light = s.light ∧
      (allocateFan sp i s).faults.flags = s.faults.flags ∧ (allocateFan sp i s).faults.alert = s.faults.alert ∧
      (allocateFan sp i s).faults.gasHigh = s.faults.gasHigh ∧
      (allocateFan sp i s).faults.shortfall = s.faults.shortfall ∧
      (allocateFan sp i s).faults.risen = s.faults.risen ∧ (allocateFan sp i s).faults.notice = s.faults.notice ∧
      (allocateFan sp i s).faults.noticeNumber = s.faults.noticeNumber ∧ (allocateFan sp i s).fire = s.fire ∧
      (allocateFan sp i s).mgmt = s.mgmt ∧ (allocateFan sp i s).tables = s.tables ∧
      (allocateFan sp i s).store = s.store := by
  simp only [allocateFan]
  repeat' split
  all_goals simp

/-- What `allocateFans` leaves as it is. -/
@[simp] theorem allocateFans_frame (sp : Nat) (l : List Nat) (s : State) :
    (forList l (allocateFan sp) s).pending = s.pending ∧ (forList l (allocateFan sp) s).clock = s.clock ∧
      (forList l (allocateFan sp) s).epoch = s.epoch ∧ (forList l (allocateFan sp) s).draws = s.draws ∧
      (forList l (allocateFan sp) s).phase = s.phase ∧
      (forList l (allocateFan sp) s).ring.ownAddress = s.ring.ownAddress ∧
      (forList l (allocateFan sp) s).ring.rate = s.ring.rate ∧
      (forList l (allocateFan sp) s).ring.relayQueue = s.ring.relayQueue ∧
      (forList l (allocateFan sp) s).ring.runCount = s.ring.runCount ∧
      (forList l (allocateFan sp) s).ring.relayed = s.ring.relayed ∧
      (forList l (allocateFan sp) s).ring.badCheck = s.ring.badCheck ∧
      (forList l (allocateFan sp) s).ring.hopExpiry = s.ring.hopExpiry ∧
      (forList l (allocateFan sp) s).ring.relayFull = s.ring.relayFull ∧
      (forList l (allocateFan sp) s).ring.ringSilent = s.ring.ringSilent ∧
      (forList l (allocateFan sp) s).ring.silenceTimer = s.ring.silenceTimer ∧
      (forList l (allocateFan sp) s).ring.portB = s.ring.portB ∧ (forList l (allocateFan sp) s).nodes = s.nodes ∧
      (forList l (allocateFan sp) s).delivery.tagCounter = s.delivery.tagCounter ∧
      (forList l (allocateFan sp) s).delivery.proxy = s.delivery.proxy ∧
      (forList l (allocateFan sp) s).delivery.noTake = s.delivery.noTake ∧
      (forList l (allocateFan sp) s).air = s.air ∧ (forList l (allocateFan sp) s).guide = s.guide ∧
      (forList l (allocateFan sp) s).light = s.light ∧ (forList l (allocateFan sp) s).faults.flags = s.faults.flags ∧
      (forList l (allocateFan sp) s).faults.alert = s.faults.alert ∧
      (forList l (allocateFan sp) s).faults.gasHigh = s.faults.gasHigh ∧
      (forList l (allocateFan sp) s).faults.shortfall = s.faults.shortfall ∧
      (forList l (allocateFan sp) s).faults.risen = s.faults.risen ∧
      (forList l (allocateFan sp) s).faults.notice = s.faults.notice ∧
      (forList l (allocateFan sp) s).faults.noticeNumber = s.faults.noticeNumber ∧
      (forList l (allocateFan sp) s).fire = s.fire ∧ (forList l (allocateFan sp) s).mgmt = s.mgmt ∧
      (forList l (allocateFan sp) s).tables = s.tables ∧ (forList l (allocateFan sp) s).store = s.store := by
  refine forList_frame (R := fun a b =>
    b.pending = a.pending ∧ b.clock = a.clock ∧ b.epoch = a.epoch ∧ b.draws = a.draws ∧ b.phase = a.phase ∧
    b.ring.ownAddress = a.ring.ownAddress ∧ b.ring.rate = a.ring.rate ∧ b.ring.relayQueue = a.ring.relayQueue ∧
    b.ring.runCount = a.ring.runCount ∧ b.ring.relayed = a.ring.relayed ∧ b.ring.badCheck = a.ring.badCheck ∧
    b.ring.hopExpiry = a.ring.hopExpiry ∧ b.ring.relayFull = a.ring.relayFull ∧
    b.ring.ringSilent = a.ring.ringSilent ∧ b.ring.silenceTimer = a.ring.silenceTimer ∧
    b.ring.portB = a.ring.portB ∧ b.nodes = a.nodes ∧ b.delivery.tagCounter = a.delivery.tagCounter ∧
    b.delivery.proxy = a.delivery.proxy ∧ b.delivery.noTake = a.delivery.noTake ∧ b.air = a.air ∧
    b.guide = a.guide ∧ b.light = a.light ∧ b.faults.flags = a.faults.flags ∧ b.faults.alert = a.faults.alert ∧
    b.faults.gasHigh = a.faults.gasHigh ∧ b.faults.shortfall = a.faults.shortfall ∧
    b.faults.risen = a.faults.risen ∧ b.faults.notice = a.faults.notice ∧
    b.faults.noticeNumber = a.faults.noticeNumber ∧ b.fire = a.fire ∧ b.mgmt = a.mgmt ∧ b.tables = a.tables ∧
    b.store = a.store) ?_ ?_ ?_ l s
  · intro t; simp
  · intro a b c h1 h2; simp_all
  · intro i t; simp

/-- What `allocate` leaves as it is. -/
@[simp] theorem allocate_frame (z p : Nat) (s : State) :
    (allocate z p s).pending = s.pending ∧ (allocate z p s).clock = s.clock ∧ (allocate z p s).epoch = s.epoch ∧
      (allocate z p s).draws = s.draws ∧ (allocate z p s).phase = s.phase ∧
      (allocate z p s).ring.ownAddress = s.ring.ownAddress ∧ (allocate z p s).ring.rate = s.ring.rate ∧
      (allocate z p s).ring.relayQueue = s.ring.relayQueue ∧ (allocate z p s).ring.runCount = s.ring.runCount ∧
      (allocate z p s).ring.relayed = s.ring.relayed ∧ (allocate z p s).ring.badCheck = s.ring.badCheck ∧
      (allocate z p s).ring.hopExpiry = s.ring.hopExpiry ∧ (allocate z p s).ring.relayFull = s.ring.relayFull ∧
      (allocate z p s).ring.ringSilent = s.ring.ringSilent ∧
      (allocate z p s).ring.silenceTimer = s.ring.silenceTimer ∧ (allocate z p s).ring.portB = s.ring.portB ∧
      (allocate z p s).nodes = s.nodes ∧ (allocate z p s).delivery.tagCounter = s.delivery.tagCounter ∧
      (allocate z p s).delivery.proxy = s.delivery.proxy ∧ (allocate z p s).delivery.noTake = s.delivery.noTake ∧
      (allocate z p s).air.sensors = s.air.sensors ∧ (allocate z p s).air.evaluationTimer = s.air.evaluationTimer ∧
      (allocate z p s).guide.bays = s.guide.bays ∧ (allocate z p s).guide.rowFree = s.guide.rowFree ∧
      (allocate z p s).guide.signs = s.guide.signs ∧ (allocate z p s).guide.clusterFault = s.guide.clusterFault ∧
      (allocate z p s).light.stepTimer = s.light.stepTimer ∧ (allocate z p s).faults.gasHigh = s.faults.gasHigh ∧
      (allocate z p s).faults.noticeNumber = s.faults.noticeNumber ∧ (allocate z p s).fire = s.fire ∧
      (allocate z p s).mgmt = s.mgmt ∧ (allocate z p s).tables = s.tables ∧ (allocate z p s).store = s.store := by
  simp [allocate]

/-- What `judgeGasHigh` leaves as it is. -/
@[simp] theorem judgeGasHigh_frame (z : Nat) (s : State) :
    (judgeGasHigh z s).pending = s.pending ∧ (judgeGasHigh z s).clock = s.clock ∧
      (judgeGasHigh z s).epoch = s.epoch ∧ (judgeGasHigh z s).draws = s.draws ∧ (judgeGasHigh z s).phase = s.phase ∧
      (judgeGasHigh z s).ring.ownAddress = s.ring.ownAddress ∧ (judgeGasHigh z s).ring.rate = s.ring.rate ∧
      (judgeGasHigh z s).ring.relayQueue = s.ring.relayQueue ∧ (judgeGasHigh z s).ring.runCount = s.ring.runCount ∧
      (judgeGasHigh z s).ring.relayed = s.ring.relayed ∧ (judgeGasHigh z s).ring.badCheck = s.ring.badCheck ∧
      (judgeGasHigh z s).ring.hopExpiry = s.ring.hopExpiry ∧ (judgeGasHigh z s).ring.relayFull = s.ring.relayFull ∧
      (judgeGasHigh z s).ring.ringSilent = s.ring.ringSilent ∧
      (judgeGasHigh z s).ring.silenceTimer = s.ring.silenceTimer ∧ (judgeGasHigh z s).ring.portB = s.ring.portB ∧
      (judgeGasHigh z s).nodes = s.nodes ∧ (judgeGasHigh z s).delivery = s.delivery ∧
      (judgeGasHigh z s).air.sensors = s.air.sensors ∧
      (judgeGasHigh z s).air.evaluationTimer = s.air.evaluationTimer ∧ (judgeGasHigh z s).fans = s.fans ∧
      (judgeGasHigh z s).guide = s.guide ∧ (judgeGasHigh z s).light = s.light ∧
      (judgeGasHigh z s).faults.list = s.faults.list ∧ (judgeGasHigh z s).faults.shortfall = s.faults.shortfall ∧
      (judgeGasHigh z s).faults.noticeNumber = s.faults.noticeNumber ∧ (judgeGasHigh z s).fire = s.fire ∧
      (judgeGasHigh z s).mgmt = s.mgmt ∧ (judgeGasHigh z s).tables = s.tables ∧
      (judgeGasHigh z s).store = s.store := by
  simp only [judgeGasHigh]
  repeat' split
  all_goals simp

/-- What `evaluateZone` leaves as it is. -/
@[simp] theorem evaluateZone_frame (z : Nat) (s : State) :
    (evaluateZone z s).pending = s.pending ∧ (evaluateZone z s).clock = s.clock ∧
      (evaluateZone z s).epoch = s.epoch ∧ (evaluateZone z s).draws = s.draws ∧ (evaluateZone z s).phase = s.phase ∧
      (evaluateZone z s).ring.ownAddress = s.ring.ownAddress ∧ (evaluateZone z s).ring.rate = s.ring.rate ∧
      (evaluateZone z s).ring.relayQueue = s.ring.relayQueue ∧ (evaluateZone z s).ring.runCount = s.ring.runCount ∧
      (evaluateZone z s).ring.relayed = s.ring.relayed ∧ (evaluateZone z s).ring.badCheck = s.ring.badCheck ∧
      (evaluateZone z s).ring.hopExpiry = s.ring.hopExpiry ∧ (evaluateZone z s).ring.relayFull = s.ring.relayFull ∧
      (evaluateZone z s).ring.ringSilent = s.ring.ringSilent ∧
      (evaluateZone z s).ring.silenceTimer = s.ring.silenceTimer ∧ (evaluateZone z s).ring.portB = s.ring.portB ∧
      (evaluateZone z s).nodes = s.nodes ∧ (evaluateZone z s).delivery.tagCounter = s.delivery.tagCounter ∧
      (evaluateZone z s).delivery.proxy = s.delivery.proxy ∧ (evaluateZone z s).delivery.noTake = s.delivery.noTake ∧
      (evaluateZone z s).air.sensors = s.air.sensors ∧
      (evaluateZone z s).air.evaluationTimer = s.air.evaluationTimer ∧ (evaluateZone z s).guide.bays = s.guide.bays ∧
      (evaluateZone z s).guide.rowFree = s.guide.rowFree ∧ (evaluateZone z s).guide.signs = s.guide.signs ∧
      (evaluateZone z s).guide.clusterFault = s.guide.clusterFault ∧
      (evaluateZone z s).light.stepTimer = s.light.stepTimer ∧
      (evaluateZone z s).faults.noticeNumber = s.faults.noticeNumber ∧ (evaluateZone z s).fire = s.fire ∧
      (evaluateZone z s).mgmt = s.mgmt ∧ (evaluateZone z s).tables = s.tables ∧
      (evaluateZone z s).store = s.store := by
  simp [evaluateZone]

/-- What `evaluateZones` leaves as it is. -/
@[simp] theorem evaluateZones_frame  (s : State) :
    (forEach 16 evaluateZone s).pending = s.pending ∧ (forEach 16 evaluateZone s).clock = s.clock ∧
      (forEach 16 evaluateZone s).epoch = s.epoch ∧ (forEach 16 evaluateZone s).draws = s.draws ∧
      (forEach 16 evaluateZone s).phase = s.phase ∧ (forEach 16 evaluateZone s).ring.ownAddress = s.ring.ownAddress ∧
      (forEach 16 evaluateZone s).ring.rate = s.ring.rate ∧
      (forEach 16 evaluateZone s).ring.relayQueue = s.ring.relayQueue ∧
      (forEach 16 evaluateZone s).ring.runCount = s.ring.runCount ∧
      (forEach 16 evaluateZone s).ring.relayed = s.ring.relayed ∧
      (forEach 16 evaluateZone s).ring.badCheck = s.ring.badCheck ∧
      (forEach 16 evaluateZone s).ring.hopExpiry = s.ring.hopExpiry ∧
      (forEach 16 evaluateZone s).ring.relayFull = s.ring.relayFull ∧
      (forEach 16 evaluateZone s).ring.ringSilent = s.ring.ringSilent ∧
      (forEach 16 evaluateZone s).ring.silenceTimer = s.ring.silenceTimer ∧
      (forEach 16 evaluateZone s).ring.portB = s.ring.portB ∧ (forEach 16 evaluateZone s).nodes = s.nodes ∧
      (forEach 16 evaluateZone s).delivery.tagCounter = s.delivery.tagCounter ∧
      (forEach 16 evaluateZone s).delivery.proxy = s.delivery.proxy ∧
      (forEach 16 evaluateZone s).delivery.noTake = s.delivery.noTake ∧
      (forEach 16 evaluateZone s).air.sensors = s.air.sensors ∧
      (forEach 16 evaluateZone s).air.evaluationTimer = s.air.evaluationTimer ∧
      (forEach 16 evaluateZone s).guide.bays = s.guide.bays ∧
      (forEach 16 evaluateZone s).guide.rowFree = s.guide.rowFree ∧
      (forEach 16 evaluateZone s).guide.signs = s.guide.signs ∧
      (forEach 16 evaluateZone s).guide.clusterFault = s.guide.clusterFault ∧
      (forEach 16 evaluateZone s).light.stepTimer = s.light.stepTimer ∧
      (forEach 16 evaluateZone s).faults.noticeNumber = s.faults.noticeNumber ∧
      (forEach 16 evaluateZone s).fire = s.fire ∧ (forEach 16 evaluateZone s).mgmt = s.mgmt ∧
      (forEach 16 evaluateZone s).tables = s.tables ∧ (forEach 16 evaluateZone s).store = s.store := by
  refine forEach_frame (R := fun a b =>
    b.pending = a.pending ∧ b.clock = a.clock ∧ b.epoch = a.epoch ∧ b.draws = a.draws ∧ b.phase = a.phase ∧
    b.ring.ownAddress = a.ring.ownAddress ∧ b.ring.rate = a.ring.rate ∧ b.ring.relayQueue = a.ring.relayQueue ∧
    b.ring.runCount = a.ring.runCount ∧ b.ring.relayed = a.ring.relayed ∧ b.ring.badCheck = a.ring.badCheck ∧
    b.ring.hopExpiry = a.ring.hopExpiry ∧ b.ring.relayFull = a.ring.relayFull ∧
    b.ring.ringSilent = a.ring.ringSilent ∧ b.ring.silenceTimer = a.ring.silenceTimer ∧
    b.ring.portB = a.ring.portB ∧ b.nodes = a.nodes ∧ b.delivery.tagCounter = a.delivery.tagCounter ∧
    b.delivery.proxy = a.delivery.proxy ∧ b.delivery.noTake = a.delivery.noTake ∧ b.air.sensors = a.air.sensors ∧
    b.air.evaluationTimer = a.air.evaluationTimer ∧ b.guide.bays = a.guide.bays ∧
    b.guide.rowFree = a.guide.rowFree ∧ b.guide.signs = a.guide.signs ∧
    b.guide.clusterFault = a.guide.clusterFault ∧ b.light.stepTimer = a.light.stepTimer ∧
    b.faults.noticeNumber = a.faults.noticeNumber ∧ b.fire = a.fire ∧ b.mgmt = a.mgmt ∧ b.tables = a.tables ∧
    b.store = a.store) ?_ ?_ ?_ _ _
  · intro t; simp
  · intro a b c h1 h2; simp_all
  · intro i t; simp

/-- What `evaluateAll` leaves as it is. -/
@[simp] theorem evaluateAll_frame  (s : State) :
    (evaluateAll s).pending = s.pending ∧ (evaluateAll s).clock = s.clock ∧ (evaluateAll s).epoch = s.epoch ∧
      (evaluateAll s).draws = s.draws ∧ (evaluateAll s).phase = s.phase ∧
      (evaluateAll s).ring.ownAddress = s.ring.ownAddress ∧ (evaluateAll s).ring.rate = s.ring.rate ∧
      (evaluateAll s).ring.relayQueue = s.ring.relayQueue ∧ (evaluateAll s).ring.runCount = s.ring.runCount ∧
      (evaluateAll s).ring.relayed = s.ring.relayed ∧ (evaluateAll s).ring.badCheck = s.ring.badCheck ∧
      (evaluateAll s).ring.hopExpiry = s.ring.hopExpiry ∧ (evaluateAll s).ring.relayFull = s.ring.relayFull ∧
      (evaluateAll s).ring.ringSilent = s.ring.ringSilent ∧ (evaluateAll s).ring.silenceTimer = s.ring.silenceTimer ∧
      (evaluateAll s).ring.portB = s.ring.portB ∧ (evaluateAll s).nodes = s.nodes ∧
      (evaluateAll s).delivery.tagCounter = s.delivery.tagCounter ∧
      (evaluateAll s).delivery.proxy = s.delivery.proxy ∧ (evaluateAll s).delivery.noTake = s.delivery.noTake ∧
      (evaluateAll s).air.sensors = s.air.sensors ∧ (evaluateAll s).air.evaluationTimer = s.air.evaluationTimer ∧
      (evaluateAll s).guide.bays = s.guide.bays ∧ (evaluateAll s).guide.rowFree = s.guide.rowFree ∧
      (evaluateAll s).guide.signs = s.guide.signs ∧ (evaluateAll s).guide.clusterFault = s.guide.clusterFault ∧
      (evaluateAll s).light.stepTimer = s.light.stepTimer ∧
      (evaluateAll s).faults.noticeNumber = s.faults.noticeNumber ∧ (evaluateAll s).fire = s.fire ∧
      (evaluateAll s).mgmt = s.mgmt ∧ (evaluateAll s).tables = s.tables ∧ (evaluateAll s).store = s.store := by
  simp [evaluateAll]

/-- What `groupCommands` leaves as it is. -/
@[simp] theorem groupCommands_frame  (s : State) :
    (groupCommands s).pending = s.pending ∧ (groupCommands s).clock = s.clock ∧ (groupCommands s).epoch = s.epoch ∧
      (groupCommands s).draws = s.draws ∧ (groupCommands s).phase = s.phase ∧
      (groupCommands s).ring.ownAddress = s.ring.ownAddress ∧ (groupCommands s).ring.rate = s.ring.rate ∧
      (groupCommands s).ring.relayQueue = s.ring.relayQueue ∧ (groupCommands s).ring.runCount = s.ring.runCount ∧
      (groupCommands s).ring.relayed = s.ring.relayed ∧ (groupCommands s).ring.badCheck = s.ring.badCheck ∧
      (groupCommands s).ring.hopExpiry = s.ring.hopExpiry ∧ (groupCommands s).ring.relayFull = s.ring.relayFull ∧
      (groupCommands s).ring.ringSilent = s.ring.ringSilent ∧
      (groupCommands s).ring.silenceTimer = s.ring.silenceTimer ∧ (groupCommands s).ring.portB = s.ring.portB ∧
      (groupCommands s).nodes = s.nodes ∧ (groupCommands s).delivery = s.delivery ∧ (groupCommands s).air = s.air ∧
      (groupCommands s).fans = s.fans ∧ (groupCommands s).guide = s.guide ∧ (groupCommands s).light = s.light ∧
      (groupCommands s).faults = s.faults ∧ (groupCommands s).fire = s.fire ∧ (groupCommands s).mgmt = s.mgmt ∧
      (groupCommands s).tables = s.tables ∧ (groupCommands s).store = s.store := by
  unfold groupCommands
  refine forEach_frame (R := fun a b =>
    b.pending = a.pending ∧ b.clock = a.clock ∧ b.epoch = a.epoch ∧ b.draws = a.draws ∧ b.phase = a.phase ∧
    b.ring.ownAddress = a.ring.ownAddress ∧ b.ring.rate = a.ring.rate ∧ b.ring.relayQueue = a.ring.relayQueue ∧
    b.ring.runCount = a.ring.runCount ∧ b.ring.relayed = a.ring.relayed ∧ b.ring.badCheck = a.ring.badCheck ∧
    b.ring.hopExpiry = a.ring.hopExpiry ∧ b.ring.relayFull = a.ring.relayFull ∧
    b.ring.ringSilent = a.ring.ringSilent ∧ b.ring.silenceTimer = a.ring.silenceTimer ∧
    b.ring.portB = a.ring.portB ∧ b.nodes = a.nodes ∧ b.delivery = a.delivery ∧ b.air = a.air ∧ b.fans = a.fans ∧
    b.guide = a.guide ∧ b.light = a.light ∧ b.faults = a.faults ∧ b.fire = a.fire ∧ b.mgmt = a.mgmt ∧
    b.tables = a.tables ∧ b.store = a.store) ?_ ?_ ?_ _ _
  · intro t; simp
  · intro a b c h1 h2; simp_all
  · intro i t; dsimp only; split <;> simp

/-- What `holdFans` leaves as it is. -/
@[simp] theorem holdFans_frame  (s : State) :
    (forEach 48 holdFan s).pending = s.pending ∧ (forEach 48 holdFan s).clock = s.clock ∧
      (forEach 48 holdFan s).epoch = s.epoch ∧ (forEach 48 holdFan s).draws = s.draws ∧
      (forEach 48 holdFan s).phase = s.phase ∧ (forEach 48 holdFan s).ring.ownAddress = s.ring.ownAddress ∧
      (forEach 48 holdFan s).ring.rate = s.ring.rate ∧ (forEach 48 holdFan s).ring.relayQueue = s.ring.relayQueue ∧
      (forEach 48 holdFan s).ring.runCount = s.ring.runCount ∧ (forEach 48 holdFan s).ring.relayed = s.ring.relayed ∧
      (forEach 48 holdFan s).ring.badCheck = s.ring.badCheck ∧
      (forEach 48 holdFan s).ring.hopExpiry = s.ring.hopExpiry ∧
      (forEach 48 holdFan s).ring.relayFull = s.ring.relayFull ∧
      (forEach 48 holdFan s).ring.ringSilent = s.ring.ringSilent ∧
      (forEach 48 holdFan s).ring.silenceTimer = s.ring.silenceTimer ∧
      (forEach 48 holdFan s).ring.portB = s.ring.portB ∧ (forEach 48 holdFan s).nodes = s.nodes ∧
      (forEach 48 holdFan s).delivery.tagCounter = s.delivery.tagCounter ∧
      (forEach 48 holdFan s).delivery.proxy = s.delivery.proxy ∧
      (forEach 48 holdFan s).delivery.noTake = s.delivery.noTake ∧ (forEach 48 holdFan s).air = s.air ∧
      (forEach 48 holdFan s).guide = s.guide ∧ (forEach 48 holdFan s).light = s.light ∧
      (forEach 48 holdFan s).faults.flags = s.faults.flags ∧ (forEach 48 holdFan s).faults.alert = s.faults.alert ∧
      (forEach 48 holdFan s).faults.gasHigh = s.faults.gasHigh ∧
      (forEach 48 holdFan s).faults.shortfall = s.faults.shortfall ∧
      (forEach 48 holdFan s).faults.risen = s.faults.risen ∧ (forEach 48 holdFan s).faults.notice = s.faults.notice ∧
      (forEach 48 holdFan s).faults.noticeNumber = s.faults.noticeNumber ∧
      (forEach 48 holdFan s).fire.latch = s.fire.latch ∧ (forEach 48 holdFan s).fire.plan = s.fire.plan ∧
      (forEach 48 holdFan s).fire.planLock = s.fire.planLock ∧ (forEach 48 holdFan s).fire.fireIn = s.fire.fireIn ∧
      (forEach 48 holdFan s).fire.fireHeld = s.fire.fireHeld ∧ (forEach 48 holdFan s).fire.keysw = s.fire.keysw ∧
      (forEach 48 holdFan s).mgmt = s.mgmt ∧ (forEach 48 holdFan s).tables = s.tables ∧
      (forEach 48 holdFan s).store = s.store := by
  refine forEach_frame (R := fun a b =>
    b.pending = a.pending ∧ b.clock = a.clock ∧ b.epoch = a.epoch ∧ b.draws = a.draws ∧ b.phase = a.phase ∧
    b.ring.ownAddress = a.ring.ownAddress ∧ b.ring.rate = a.ring.rate ∧ b.ring.relayQueue = a.ring.relayQueue ∧
    b.ring.runCount = a.ring.runCount ∧ b.ring.relayed = a.ring.relayed ∧ b.ring.badCheck = a.ring.badCheck ∧
    b.ring.hopExpiry = a.ring.hopExpiry ∧ b.ring.relayFull = a.ring.relayFull ∧
    b.ring.ringSilent = a.ring.ringSilent ∧ b.ring.silenceTimer = a.ring.silenceTimer ∧
    b.ring.portB = a.ring.portB ∧ b.nodes = a.nodes ∧ b.delivery.tagCounter = a.delivery.tagCounter ∧
    b.delivery.proxy = a.delivery.proxy ∧ b.delivery.noTake = a.delivery.noTake ∧ b.air = a.air ∧
    b.guide = a.guide ∧ b.light = a.light ∧ b.faults.flags = a.faults.flags ∧ b.faults.alert = a.faults.alert ∧
    b.faults.gasHigh = a.faults.gasHigh ∧ b.faults.shortfall = a.faults.shortfall ∧
    b.faults.risen = a.faults.risen ∧ b.faults.notice = a.faults.notice ∧
    b.faults.noticeNumber = a.faults.noticeNumber ∧ b.fire.latch = a.fire.latch ∧ b.fire.plan = a.fire.plan ∧
    b.fire.planLock = a.fire.planLock ∧ b.fire.fireIn = a.fire.fireIn ∧ b.fire.fireHeld = a.fire.fireHeld ∧
    b.fire.keysw = a.fire.keysw ∧ b.mgmt = a.mgmt ∧ b.tables = a.tables ∧ b.store = a.store) ?_ ?_ ?_ _ _
  · intro t; simp
  · intro a b c h1 h2; simp_all
  · intro i t; simp

/-- What `unholdFans` leaves as it is. -/
@[simp] theorem unholdFans_frame  (s : State) :
    (forEach 48 unholdFan s).pending = s.pending ∧ (forEach 48 unholdFan s).clock = s.clock ∧
      (forEach 48 unholdFan s).epoch = s.epoch ∧ (forEach 48 unholdFan s).draws = s.draws ∧
      (forEach 48 unholdFan s).phase = s.phase ∧ (forEach 48 unholdFan s).ring.ownAddress = s.ring.ownAddress ∧
      (forEach 48 unholdFan s).ring.rate = s.ring.rate ∧
      (forEach 48 unholdFan s).ring.relayQueue = s.ring.relayQueue ∧
      (forEach 48 unholdFan s).ring.runCount = s.ring.runCount ∧
      (forEach 48 unholdFan s).ring.relayed = s.ring.relayed ∧
      (forEach 48 unholdFan s).ring.badCheck = s.ring.badCheck ∧
      (forEach 48 unholdFan s).ring.hopExpiry = s.ring.hopExpiry ∧
      (forEach 48 unholdFan s).ring.relayFull = s.ring.relayFull ∧
      (forEach 48 unholdFan s).ring.ringSilent = s.ring.ringSilent ∧
      (forEach 48 unholdFan s).ring.silenceTimer = s.ring.silenceTimer ∧
      (forEach 48 unholdFan s).ring.portB = s.ring.portB ∧ (forEach 48 unholdFan s).nodes = s.nodes ∧
      (forEach 48 unholdFan s).delivery.tagCounter = s.delivery.tagCounter ∧
      (forEach 48 unholdFan s).delivery.noTake = s.delivery.noTake ∧ (forEach 48 unholdFan s).air = s.air ∧
      (forEach 48 unholdFan s).guide = s.guide ∧ (forEach 48 unholdFan s).light = s.light ∧
      (forEach 48 unholdFan s).faults.flags = s.faults.flags ∧
      (forEach 48 unholdFan s).faults.alert = s.faults.alert ∧
      (forEach 48 unholdFan s).faults.gasHigh = s.faults.gasHigh ∧
      (forEach 48 unholdFan s).faults.shortfall = s.faults.shortfall ∧
      (forEach 48 unholdFan s).faults.risen = s.faults.risen ∧
      (forEach 48 unholdFan s).faults.noticeNumber = s.faults.noticeNumber ∧ (forEach 48 unholdFan s).fire = s.fire ∧
      (forEach 48 unholdFan s).mgmt.queue = s.mgmt.queue ∧ (forEach 48 unholdFan s).mgmt.cursor = s.mgmt.cursor ∧
      (forEach 48 unholdFan s).mgmt.storeSender = s.mgmt.storeSender ∧
      (forEach 48 unholdFan s).mgmt.proxySender = s.mgmt.proxySender ∧
      (forEach 48 unholdFan s).mgmt.restartPending = s.mgmt.restartPending ∧
      (forEach 48 unholdFan s).tables = s.tables ∧ (forEach 48 unholdFan s).store = s.store := by
  refine forEach_frame (R := fun a b =>
    b.pending = a.pending ∧ b.clock = a.clock ∧ b.epoch = a.epoch ∧ b.draws = a.draws ∧ b.phase = a.phase ∧
    b.ring.ownAddress = a.ring.ownAddress ∧ b.ring.rate = a.ring.rate ∧ b.ring.relayQueue = a.ring.relayQueue ∧
    b.ring.runCount = a.ring.runCount ∧ b.ring.relayed = a.ring.relayed ∧ b.ring.badCheck = a.ring.badCheck ∧
    b.ring.hopExpiry = a.ring.hopExpiry ∧ b.ring.relayFull = a.ring.relayFull ∧
    b.ring.ringSilent = a.ring.ringSilent ∧ b.ring.silenceTimer = a.ring.silenceTimer ∧
    b.ring.portB = a.ring.portB ∧ b.nodes = a.nodes ∧ b.delivery.tagCounter = a.delivery.tagCounter ∧
    b.delivery.noTake = a.delivery.noTake ∧ b.air = a.air ∧ b.guide = a.guide ∧ b.light = a.light ∧
    b.faults.flags = a.faults.flags ∧ b.faults.alert = a.faults.alert ∧ b.faults.gasHigh = a.faults.gasHigh ∧
    b.faults.shortfall = a.faults.shortfall ∧ b.faults.risen = a.faults.risen ∧
    b.faults.noticeNumber = a.faults.noticeNumber ∧ b.fire = a.fire ∧ b.mgmt.queue = a.mgmt.queue ∧
    b.mgmt.cursor = a.mgmt.cursor ∧ b.mgmt.storeSender = a.mgmt.storeSender ∧
    b.mgmt.proxySender = a.mgmt.proxySender ∧ b.mgmt.restartPending = a.mgmt.restartPending ∧ b.tables = a.tables ∧
    b.store = a.store) ?_ ?_ ?_ _ _
  · intro t; simp
  · intro a b c h1 h2; simp_all
  · intro i t; simp

/-- What `fireEntryOrder` leaves as it is. -/
@[simp] theorem fireEntryOrder_frame  (s : State) :

      (inAnyOrder [faultsFireEntry, forEach 48 holdFan, lightFire true, guideFireEntry, groupCommands] s).pending = s.pending ∧
      (inAnyOrder [faultsFireEntry, forEach 48 holdFan, lightFire true, guideFireEntry, groupCommands] s).clock = s.clock ∧
      (inAnyOrder [faultsFireEntry, forEach 48 holdFan, lightFire true, guideFireEntry, groupCommands] s).epoch = s.epoch ∧
      (inAnyOrder [faultsFireEntry, forEach 48 holdFan, lightFire true, guideFireEntry, groupCommands] s).phase = s.phase ∧
      (inAnyOrder [faultsFireEntry, forEach 48 holdFan, lightFire true, guideFireEntry, groupCommands] s).ring.ownAddress = s.ring.ownAddress ∧
      (inAnyOrder [faultsFireEntry, forEach 48 holdFan, lightFire true, guideFireEntry, groupCommands] s).ring.rate = s.ring.rate ∧
      (inAnyOrder [faultsFireEntry, forEach 48 holdFan, lightFire true, guideFireEntry, groupCommands] s).ring.relayQueue = s.ring.relayQueue ∧
      (inAnyOrder [faultsFireEntry, forEach 48 holdFan, lightFire true, guideFireEntry, groupCommands] s).ring.runCount = s.ring.runCount ∧
      (inAnyOrder [faultsFireEntry, forEach 48 holdFan, lightFire true, guideFireEntry, groupCommands] s).ring.relayed = s.ring.relayed ∧
      (inAnyOrder [faultsFireEntry, forEach 48 holdFan, lightFire true, guideFireEntry, groupCommands] s).ring.badCheck = s.ring.badCheck ∧
      (inAnyOrder [faultsFireEntry, forEach 48 holdFan, lightFire true, guideFireEntry, groupCommands] s).ring.hopExpiry = s.ring.hopExpiry ∧
      (inAnyOrder [faultsFireEntry, forEach 48 holdFan, lightFire true, guideFireEntry, groupCommands] s).ring.relayFull = s.ring.relayFull ∧
      (inAnyOrder [faultsFireEntry, forEach 48 holdFan, lightFire true, guideFireEntry, groupCommands] s).ring.ringSilent = s.ring.ringSilent ∧
      (inAnyOrder [faultsFireEntry, forEach 48 holdFan, lightFire true, guideFireEntry, groupCommands] s).ring.silenceTimer = s.ring.silenceTimer ∧
      (inAnyOrder [faultsFireEntry, forEach 48 holdFan, lightFire true, guideFireEntry, groupCommands] s).ring.portB = s.ring.portB ∧
      (inAnyOrder [faultsFireEntry, forEach 48 holdFan, lightFire true, guideFireEntry, groupCommands] s).nodes = s.nodes ∧
      (inAnyOrder [faultsFireEntry, forEach 48 holdFan, lightFire true, guideFireEntry, groupCommands] s).delivery.tagCounter = s.delivery.tagCounter ∧
      (inAnyOrder [faultsFireEntry, forEach 48 holdFan, lightFire true, guideFireEntry, groupCommands] s).delivery.noTake = s.delivery.noTake ∧
      (inAnyOrder [faultsFireEntry, forEach 48 holdFan, lightFire true, guideFireEntry, groupCommands] s).air = s.air ∧
      (inAnyOrder [faultsFireEntry, forEach 48 holdFan, lightFire true, guideFireEntry, groupCommands] s).guide.bays = s.guide.bays ∧
      (inAnyOrder [faultsFireEntry, forEach 48 holdFan, lightFire true, guideFireEntry, groupCommands] s).guide.rowFree = s.guide.rowFree ∧
      (inAnyOrder [faultsFireEntry, forEach 48 holdFan, lightFire true, guideFireEntry, groupCommands] s).guide.clusterFault = s.guide.clusterFault ∧
      (inAnyOrder [faultsFireEntry, forEach 48 holdFan, lightFire true, guideFireEntry, groupCommands] s).light.stepTimer = s.light.stepTimer ∧
      (inAnyOrder [faultsFireEntry, forEach 48 holdFan, lightFire true, guideFireEntry, groupCommands] s).faults.gasHigh = s.faults.gasHigh ∧
      (inAnyOrder [faultsFireEntry, forEach 48 holdFan, lightFire true, guideFireEntry, groupCommands] s).faults.shortfall = s.faults.shortfall ∧
      (inAnyOrder [faultsFireEntry, forEach 48 holdFan, lightFire true, guideFireEntry, groupCommands] s).faults.noticeNumber = s.faults.noticeNumber ∧
      (inAnyOrder [faultsFireEntry, forEach 48 holdFan, lightFire true, guideFireEntry, groupCommands] s).fire.latch = s.fire.latch ∧
      (inAnyOrder [faultsFireEntry, forEach 48 holdFan, lightFire true, guideFireEntry, groupCommands] s).fire.plan = s.fire.plan ∧
      (inAnyOrder [faultsFireEntry, forEach 48 holdFan, lightFire true, guideFireEntry, groupCommands] s).fire.planLock = s.fire.planLock ∧
      (inAnyOrder [faultsFireEntry, forEach 48 holdFan, lightFire true, guideFireEntry, groupCommands] s).fire.fireIn = s.fire.fireIn ∧
      (inAnyOrder [faultsFireEntry, forEach 48 holdFan, lightFire true, guideFireEntry, groupCommands] s).fire.fireHeld = s.fire.fireHeld ∧
      (inAnyOrder [faultsFireEntry, forEach 48 holdFan, lightFire true, guideFireEntry, groupCommands] s).fire.keysw = s.fire.keysw ∧
      (inAnyOrder [faultsFireEntry, forEach 48 holdFan, lightFire true, guideFireEntry, groupCommands] s).mgmt.queue = s.mgmt.queue ∧
      (inAnyOrder [faultsFireEntry, forEach 48 holdFan, lightFire true, guideFireEntry, groupCommands] s).mgmt.cursor = s.mgmt.cursor ∧
      (inAnyOrder [faultsFireEntry, forEach 48 holdFan, lightFire true, guideFireEntry, groupCommands] s).mgmt.storeSender = s.mgmt.storeSender ∧
      (inAnyOrder [faultsFireEntry, forEach 48 holdFan, lightFire true, guideFireEntry, groupCommands] s).mgmt.proxySender = s.mgmt.proxySender ∧
      (inAnyOrder [faultsFireEntry, forEach 48 holdFan, lightFire true, guideFireEntry, groupCommands] s).mgmt.restartPending = s.mgmt.restartPending ∧
      (inAnyOrder [faultsFireEntry, forEach 48 holdFan, lightFire true, guideFireEntry, groupCommands] s).tables = s.tables ∧
      (inAnyOrder [faultsFireEntry, forEach 48 holdFan, lightFire true, guideFireEntry, groupCommands] s).store = s.store := by
  refine inAnyOrder_frame (R := fun a b =>
    b.pending = a.pending ∧ b.clock = a.clock ∧ b.epoch = a.epoch ∧ b.phase = a.phase ∧
    b.ring.ownAddress = a.ring.ownAddress ∧ b.ring.rate = a.ring.rate ∧ b.ring.relayQueue = a.ring.relayQueue ∧
    b.ring.runCount = a.ring.runCount ∧ b.ring.relayed = a.ring.relayed ∧ b.ring.badCheck = a.ring.badCheck ∧
    b.ring.hopExpiry = a.ring.hopExpiry ∧ b.ring.relayFull = a.ring.relayFull ∧
    b.ring.ringSilent = a.ring.ringSilent ∧ b.ring.silenceTimer = a.ring.silenceTimer ∧
    b.ring.portB = a.ring.portB ∧ b.nodes = a.nodes ∧ b.delivery.tagCounter = a.delivery.tagCounter ∧
    b.delivery.noTake = a.delivery.noTake ∧ b.air = a.air ∧ b.guide.bays = a.guide.bays ∧
    b.guide.rowFree = a.guide.rowFree ∧ b.guide.clusterFault = a.guide.clusterFault ∧
    b.light.stepTimer = a.light.stepTimer ∧ b.faults.gasHigh = a.faults.gasHigh ∧
    b.faults.shortfall = a.faults.shortfall ∧ b.faults.noticeNumber = a.faults.noticeNumber ∧
    b.fire.latch = a.fire.latch ∧ b.fire.plan = a.fire.plan ∧ b.fire.planLock = a.fire.planLock ∧
    b.fire.fireIn = a.fire.fireIn ∧ b.fire.fireHeld = a.fire.fireHeld ∧ b.fire.keysw = a.fire.keysw ∧
    b.mgmt.queue = a.mgmt.queue ∧ b.mgmt.cursor = a.mgmt.cursor ∧ b.mgmt.storeSender = a.mgmt.storeSender ∧
    b.mgmt.proxySender = a.mgmt.proxySender ∧ b.mgmt.restartPending = a.mgmt.restartPending ∧ b.tables = a.tables ∧
    b.store = a.store) ?_ ?_ ?_ ?_ s
  · intro t; simp
  · intro a b c h1 h2; simp_all
  · intro t n; simp
  · intro f hf t; revert f; simp

/-- What `fireExitOrder` leaves as it is. -/
@[simp] theorem fireExitOrder_frame  (s : State) :
    (inAnyOrder [faultsFireExit, forEach 48 unholdFan, lightFire false, guideFireExit] s).pending = s.pending ∧
      (inAnyOrder [faultsFireExit, forEach 48 unholdFan, lightFire false, guideFireExit] s).clock = s.clock ∧
      (inAnyOrder [faultsFireExit, forEach 48 unholdFan, lightFire false, guideFireExit] s).epoch = s.epoch ∧
      (inAnyOrder [faultsFireExit, forEach 48 unholdFan, lightFire false, guideFireExit] s).phase = s.phase ∧
      (inAnyOrder [faultsFireExit, forEach 48 unholdFan, lightFire false, guideFireExit] s).ring.ownAddress = s.ring.ownAddress ∧
      (inAnyOrder [faultsFireExit, forEach 48 unholdFan, lightFire false, guideFireExit] s).ring.rate = s.ring.rate ∧
      (inAnyOrder [faultsFireExit, forEach 48 unholdFan, lightFire false, guideFireExit] s).ring.relayQueue = s.ring.relayQueue ∧
      (inAnyOrder [faultsFireExit, forEach 48 unholdFan, lightFire false, guideFireExit] s).ring.runCount = s.ring.runCount ∧
      (inAnyOrder [faultsFireExit, forEach 48 unholdFan, lightFire false, guideFireExit] s).ring.relayed = s.ring.relayed ∧
      (inAnyOrder [faultsFireExit, forEach 48 unholdFan, lightFire false, guideFireExit] s).ring.badCheck = s.ring.badCheck ∧
      (inAnyOrder [faultsFireExit, forEach 48 unholdFan, lightFire false, guideFireExit] s).ring.hopExpiry = s.ring.hopExpiry ∧
      (inAnyOrder [faultsFireExit, forEach 48 unholdFan, lightFire false, guideFireExit] s).ring.relayFull = s.ring.relayFull ∧
      (inAnyOrder [faultsFireExit, forEach 48 unholdFan, lightFire false, guideFireExit] s).ring.ringSilent = s.ring.ringSilent ∧
      (inAnyOrder [faultsFireExit, forEach 48 unholdFan, lightFire false, guideFireExit] s).ring.silenceTimer = s.ring.silenceTimer ∧
      (inAnyOrder [faultsFireExit, forEach 48 unholdFan, lightFire false, guideFireExit] s).ring.portB = s.ring.portB ∧
      (inAnyOrder [faultsFireExit, forEach 48 unholdFan, lightFire false, guideFireExit] s).nodes = s.nodes ∧
      (inAnyOrder [faultsFireExit, forEach 48 unholdFan, lightFire false, guideFireExit] s).delivery.tagCounter = s.delivery.tagCounter ∧
      (inAnyOrder [faultsFireExit, forEach 48 unholdFan, lightFire false, guideFireExit] s).delivery.noTake = s.delivery.noTake ∧
      (inAnyOrder [faultsFireExit, forEach 48 unholdFan, lightFire false, guideFireExit] s).air = s.air ∧
      (inAnyOrder [faultsFireExit, forEach 48 unholdFan, lightFire false, guideFireExit] s).guide.bays = s.guide.bays ∧
      (inAnyOrder [faultsFireExit, forEach 48 unholdFan, lightFire false, guideFireExit] s).guide.rowFree = s.guide.rowFree ∧
      (inAnyOrder [faultsFireExit, forEach 48 unholdFan, lightFire false, guideFireExit] s).guide.clusterFault = s.guide.clusterFault ∧
      (inAnyOrder [faultsFireExit, forEach 48 unholdFan, lightFire false, guideFireExit] s).light.stepTimer = s.light.stepTimer ∧
      (inAnyOrder [faultsFireExit, forEach 48 unholdFan, lightFire false, guideFireExit] s).faults.flags = s.faults.flags ∧
      (inAnyOrder [faultsFireExit, forEach 48 unholdFan, lightFire false, guideFireExit] s).faults.alert = s.faults.alert ∧
      (inAnyOrder [faultsFireExit, forEach 48 unholdFan, lightFire false, guideFireExit] s).faults.gasHigh = s.faults.gasHigh ∧
      (inAnyOrder [faultsFireExit, forEach 48 unholdFan, lightFire false, guideFireExit] s).faults.shortfall = s.faults.shortfall ∧
      (inAnyOrder [faultsFireExit, forEach 48 unholdFan, lightFire false, guideFireExit] s).faults.risen = s.faults.risen ∧
      (inAnyOrder [faultsFireExit, forEach 48 unholdFan, lightFire false, guideFireExit] s).faults.noticeNumber = s.faults.noticeNumber ∧
      (inAnyOrder [faultsFireExit, forEach 48 unholdFan, lightFire false, guideFireExit] s).fire = s.fire ∧
      (inAnyOrder [faultsFireExit, forEach 48 unholdFan, lightFire false, guideFireExit] s).mgmt.queue = s.mgmt.queue ∧
      (inAnyOrder [faultsFireExit, forEach 48 unholdFan, lightFire false, guideFireExit] s).mgmt.cursor = s.mgmt.cursor ∧
      (inAnyOrder [faultsFireExit, forEach 48 unholdFan, lightFire false, guideFireExit] s).mgmt.storeSender = s.mgmt.storeSender ∧
      (inAnyOrder [faultsFireExit, forEach 48 unholdFan, lightFire false, guideFireExit] s).mgmt.proxySender = s.mgmt.proxySender ∧
      (inAnyOrder [faultsFireExit, forEach 48 unholdFan, lightFire false, guideFireExit] s).mgmt.restartPending = s.mgmt.restartPending ∧
      (inAnyOrder [faultsFireExit, forEach 48 unholdFan, lightFire false, guideFireExit] s).tables = s.tables ∧
      (inAnyOrder [faultsFireExit, forEach 48 unholdFan, lightFire false, guideFireExit] s).store = s.store := by
  refine inAnyOrder_frame (R := fun a b =>
    b.pending = a.pending ∧ b.clock = a.clock ∧ b.epoch = a.epoch ∧ b.phase = a.phase ∧
    b.ring.ownAddress = a.ring.ownAddress ∧ b.ring.rate = a.ring.rate ∧ b.ring.relayQueue = a.ring.relayQueue ∧
    b.ring.runCount = a.ring.runCount ∧ b.ring.relayed = a.ring.relayed ∧ b.ring.badCheck = a.ring.badCheck ∧
    b.ring.hopExpiry = a.ring.hopExpiry ∧ b.ring.relayFull = a.ring.relayFull ∧
    b.ring.ringSilent = a.ring.ringSilent ∧ b.ring.silenceTimer = a.ring.silenceTimer ∧
    b.ring.portB = a.ring.portB ∧ b.nodes = a.nodes ∧ b.delivery.tagCounter = a.delivery.tagCounter ∧
    b.delivery.noTake = a.delivery.noTake ∧ b.air = a.air ∧ b.guide.bays = a.guide.bays ∧
    b.guide.rowFree = a.guide.rowFree ∧ b.guide.clusterFault = a.guide.clusterFault ∧
    b.light.stepTimer = a.light.stepTimer ∧ b.faults.flags = a.faults.flags ∧ b.faults.alert = a.faults.alert ∧
    b.faults.gasHigh = a.faults.gasHigh ∧ b.faults.shortfall = a.faults.shortfall ∧
    b.faults.risen = a.faults.risen ∧ b.faults.noticeNumber = a.faults.noticeNumber ∧ b.fire = a.fire ∧
    b.mgmt.queue = a.mgmt.queue ∧ b.mgmt.cursor = a.mgmt.cursor ∧ b.mgmt.storeSender = a.mgmt.storeSender ∧
    b.mgmt.proxySender = a.mgmt.proxySender ∧ b.mgmt.restartPending = a.mgmt.restartPending ∧ b.tables = a.tables ∧
    b.store = a.store) ?_ ?_ ?_ ?_ s
  · intro t; simp
  · intro a b c h1 h2; simp_all
  · intro t n; simp
  · intro f hf t; revert f; simp

/-- What `enterFire` leaves as it is. -/
@[simp] theorem enterFire_frame  (s : State) :
    (enterFire s).pending = s.pending ∧ (enterFire s).clock = s.clock ∧ (enterFire s).epoch = s.epoch ∧
      (enterFire s).phase = s.phase ∧ (enterFire s).ring.ownAddress = s.ring.ownAddress ∧
      (enterFire s).ring.rate = s.ring.rate ∧ (enterFire s).ring.relayQueue = s.ring.relayQueue ∧
      (enterFire s).ring.runCount = s.ring.runCount ∧ (enterFire s).ring.relayed = s.ring.relayed ∧
      (enterFire s).ring.badCheck = s.ring.badCheck ∧ (enterFire s).ring.hopExpiry = s.ring.hopExpiry ∧
      (enterFire s).ring.relayFull = s.ring.relayFull ∧ (enterFire s).ring.ringSilent = s.ring.ringSilent ∧
      (enterFire s).ring.silenceTimer = s.ring.silenceTimer ∧ (enterFire s).ring.portB = s.ring.portB ∧
      (enterFire s).nodes = s.nodes ∧ (enterFire s).delivery.tagCounter = s.delivery.tagCounter ∧
      (enterFire s).delivery.noTake = s.delivery.noTake ∧ (enterFire s).air = s.air ∧
      (enterFire s).guide.bays = s.guide.bays ∧ (enterFire s).guide.rowFree = s.guide.rowFree ∧
      (enterFire s).guide.clusterFault = s.guide.clusterFault ∧ (enterFire s).light.stepTimer = s.light.stepTimer ∧
      (enterFire s).faults.gasHigh = s.faults.gasHigh ∧ (enterFire s).faults.shortfall = s.faults.shortfall ∧
      (enterFire s).faults.noticeNumber = s.faults.noticeNumber ∧ (enterFire s).fire.plan = s.fire.plan ∧
      (enterFire s).fire.planLock = s.fire.planLock ∧ (enterFire s).fire.fireIn = s.fire.fireIn ∧
      (enterFire s).fire.fireHeld = s.fire.fireHeld ∧ (enterFire s).fire.keysw = s.fire.keysw ∧
      (enterFire s).mgmt.queue = s.mgmt.queue ∧ (enterFire s).mgmt.cursor = s.mgmt.cursor ∧
      (enterFire s).mgmt.storeSender = s.mgmt.storeSender ∧ (enterFire s).mgmt.proxySender = s.mgmt.proxySender ∧
      (enterFire s).mgmt.restartPending = s.mgmt.restartPending ∧ (enterFire s).tables = s.tables ∧
      (enterFire s).store = s.store := by
  simp [enterFire]

/-- What `setLatch` leaves as it is. -/
@[simp] theorem setLatch_frame  (s : State) :
    (setLatch s).pending = s.pending ∧ (setLatch s).clock = s.clock ∧ (setLatch s).epoch = s.epoch ∧
      (setLatch s).phase = s.phase ∧ (setLatch s).ring.ownAddress = s.ring.ownAddress ∧
      (setLatch s).ring.rate = s.ring.rate ∧ (setLatch s).ring.relayQueue = s.ring.relayQueue ∧
      (setLatch s).ring.runCount = s.ring.runCount ∧ (setLatch s).ring.relayed = s.ring.relayed ∧
      (setLatch s).ring.badCheck = s.ring.badCheck ∧ (setLatch s).ring.hopExpiry = s.ring.hopExpiry ∧
      (setLatch s).ring.relayFull = s.ring.relayFull ∧ (setLatch s).ring.ringSilent = s.ring.ringSilent ∧
      (setLatch s).ring.silenceTimer = s.ring.silenceTimer ∧ (setLatch s).ring.portB = s.ring.portB ∧
      (setLatch s).nodes = s.nodes ∧ (setLatch s).delivery.tagCounter = s.delivery.tagCounter ∧
      (setLatch s).delivery.noTake = s.delivery.noTake ∧ (setLatch s).air = s.air ∧
      (setLatch s).guide.bays = s.guide.bays ∧ (setLatch s).guide.rowFree = s.guide.rowFree ∧
      (setLatch s).guide.clusterFault = s.guide.clusterFault ∧ (setLatch s).light.stepTimer = s.light.stepTimer ∧
      (setLatch s).faults.gasHigh = s.faults.gasHigh ∧ (setLatch s).faults.shortfall = s.faults.shortfall ∧
      (setLatch s).faults.noticeNumber = s.faults.noticeNumber ∧ (setLatch s).fire.plan = s.fire.plan ∧
      (setLatch s).fire.planLock = s.fire.planLock ∧ (setLatch s).fire.fireIn = s.fire.fireIn ∧
      (setLatch s).fire.fireHeld = s.fire.fireHeld ∧ (setLatch s).fire.keysw = s.fire.keysw ∧
      (setLatch s).mgmt.queue = s.mgmt.queue ∧ (setLatch s).mgmt.cursor = s.mgmt.cursor ∧
      (setLatch s).mgmt.storeSender = s.mgmt.storeSender ∧ (setLatch s).mgmt.proxySender = s.mgmt.proxySender ∧
      (setLatch s).mgmt.restartPending = s.mgmt.restartPending ∧ (setLatch s).tables = s.tables ∧
      (setLatch s).store = s.store := by
  simp only [setLatch]
  repeat' split
  all_goals simp

/-- What `leaveFire` leaves as it is. -/
@[simp] theorem leaveFire_frame  (s : State) :
    (leaveFire s).pending = s.pending ∧ (leaveFire s).clock = s.clock ∧ (leaveFire s).epoch = s.epoch ∧
      (leaveFire s).phase = s.phase ∧ (leaveFire s).ring.ownAddress = s.ring.ownAddress ∧
      (leaveFire s).ring.rate = s.ring.rate ∧ (leaveFire s).ring.relayQueue = s.ring.relayQueue ∧
      (leaveFire s).ring.runCount = s.ring.runCount ∧ (leaveFire s).ring.relayed = s.ring.relayed ∧
      (leaveFire s).ring.badCheck = s.ring.badCheck ∧ (leaveFire s).ring.hopExpiry = s.ring.hopExpiry ∧
      (leaveFire s).ring.relayFull = s.ring.relayFull ∧ (leaveFire s).ring.ringSilent = s.ring.ringSilent ∧
      (leaveFire s).ring.silenceTimer = s.ring.silenceTimer ∧ (leaveFire s).ring.portB = s.ring.portB ∧
      (leaveFire s).nodes = s.nodes ∧ (leaveFire s).delivery.tagCounter = s.delivery.tagCounter ∧
      (leaveFire s).delivery.noTake = s.delivery.noTake ∧ (leaveFire s).air = s.air ∧
      (leaveFire s).guide.bays = s.guide.bays ∧ (leaveFire s).guide.rowFree = s.guide.rowFree ∧
      (leaveFire s).guide.clusterFault = s.guide.clusterFault ∧ (leaveFire s).light.stepTimer = s.light.stepTimer ∧
      (leaveFire s).faults.flags = s.faults.flags ∧ (leaveFire s).faults.alert = s.faults.alert ∧
      (leaveFire s).faults.gasHigh = s.faults.gasHigh ∧ (leaveFire s).faults.shortfall = s.faults.shortfall ∧
      (leaveFire s).faults.risen = s.faults.risen ∧ (leaveFire s).faults.noticeNumber = s.faults.noticeNumber ∧
      (leaveFire s).fire.plan = s.fire.plan ∧ (leaveFire s).fire.planLock = s.fire.planLock ∧
      (leaveFire s).fire.fireIn = s.fire.fireIn ∧ (leaveFire s).fire.fireHeld = s.fire.fireHeld ∧
      (leaveFire s).fire.keysw = s.fire.keysw ∧ (leaveFire s).mgmt.queue = s.mgmt.queue ∧
      (leaveFire s).mgmt.cursor = s.mgmt.cursor ∧ (leaveFire s).mgmt.storeSender = s.mgmt.storeSender ∧
      (leaveFire s).mgmt.proxySender = s.mgmt.proxySender ∧
      (leaveFire s).mgmt.restartPending = s.mgmt.restartPending ∧ (leaveFire s).tables = s.tables ∧
      (leaveFire s).store = s.store := by
  simp [leaveFire]

/-- What `startDelayExpired` leaves as it is. -/
@[simp] theorem startDelayExpired_frame (i : Nat) (s : State) :
    (startDelayExpired i s).pending = s.pending ∧ (startDelayExpired i s).clock = s.clock ∧
      (startDelayExpired i s).epoch = s.epoch ∧ (startDelayExpired i s).draws = s.draws ∧
      (startDelayExpired i s).phase = s.phase ∧ (startDelayExpired i s).ring.ownAddress = s.ring.ownAddress ∧
      (startDelayExpired i s).ring.rate = s.ring.rate ∧ (startDelayExpired i s).ring.relayQueue = s.ring.relayQueue ∧
      (startDelayExpired i s).ring.runCount = s.ring.runCount ∧
      (startDelayExpired i s).ring.relayed = s.ring.relayed ∧
      (startDelayExpired i s).ring.badCheck = s.ring.badCheck ∧
      (startDelayExpired i s).ring.hopExpiry = s.ring.hopExpiry ∧
      (startDelayExpired i s).ring.relayFull = s.ring.relayFull ∧
      (startDelayExpired i s).ring.ringSilent = s.ring.ringSilent ∧
      (startDelayExpired i s).ring.silenceTimer = s.ring.silenceTimer ∧
      (startDelayExpired i s).ring.portB = s.ring.portB ∧ (startDelayExpired i s).nodes = s.nodes ∧
      (startDelayExpired i s).delivery.tagCounter = s.delivery.tagCounter ∧
      (startDelayExpired i s).delivery.proxy = s.delivery.proxy ∧
      (startDelayExpired i s).delivery.noTake = s.delivery.noTake ∧ (startDelayExpired i s).air = s.air ∧
      (startDelayExpired i s).guide = s.guide ∧ (startDelayExpired i s).light = s.light ∧
      (startDelayExpired i s).faults.flags = s.faults.flags ∧ (startDelayExpired i s).faults.alert = s.faults.alert ∧
      (startDelayExpired i s).faults.gasHigh = s.faults.gasHigh ∧
      (startDelayExpired i s).faults.shortfall = s.faults.shortfall ∧
      (startDelayExpired i s).faults.risen = s.faults.risen ∧
      (startDelayExpired i s).faults.notice = s.faults.notice ∧
      (startDelayExpired i s).faults.noticeNumber = s.faults.noticeNumber ∧
      (startDelayExpired i s).fire.latch = s.fire.latch ∧ (startDelayExpired i s).fire.plan = s.fire.plan ∧
      (startDelayExpired i s).fire.planLock = s.fire.planLock ∧ (startDelayExpired i s).fire.fireIn = s.fire.fireIn ∧
      (startDelayExpired i s).fire.fireHeld = s.fire.fireHeld ∧ (startDelayExpired i s).fire.keysw = s.fire.keysw ∧
      (startDelayExpired i s).mgmt = s.mgmt ∧ (startDelayExpired i s).tables = s.tables ∧
      (startDelayExpired i s).store = s.store := by
  simp [startDelayExpired]

end Sys2Proof.Machine
end

