-- ==== Sys2Proof/Laws/FramesReports.lean ====
section
/-! SUPPORT. Laws/FramesReports.lean: what each operation of the node map and the reports leaves as it is: one lemma an operation,
field by field of the state. -/

namespace Sys2Proof.Machine

/-- What `modNode` leaves as it is. -/
@[simp] theorem modNode_frame (addr : Nat) (f : NodeRecord → NodeRecord) (s : State) :
    (modNode addr f s).pending = s.pending ∧ (modNode addr f s).clock = s.clock ∧
      (modNode addr f s).epoch = s.epoch ∧ (modNode addr f s).draws = s.draws ∧ (modNode addr f s).phase = s.phase ∧
      (modNode addr f s).ring = s.ring ∧ (modNode addr f s).delivery = s.delivery ∧ (modNode addr f s).air = s.air ∧
      (modNode addr f s).fans = s.fans ∧ (modNode addr f s).guide = s.guide ∧ (modNode addr f s).light = s.light ∧
      (modNode addr f s).faults = s.faults ∧ (modNode addr f s).fire = s.fire ∧ (modNode addr f s).mgmt = s.mgmt ∧
      (modNode addr f s).tables = s.tables ∧ (modNode addr f s).store = s.store := by
  simp [modNode]

/-- What `resetNode` leaves as it is. -/
@[simp] theorem resetNode_frame (addr : Nat) (eq : Option (NodeKind × Nat)) (s : State) :
    (resetNode addr eq s).pending = s.pending ∧ (resetNode addr eq s).clock = s.clock ∧
      (resetNode addr eq s).epoch = s.epoch ∧ (resetNode addr eq s).draws = s.draws ∧
      (resetNode addr eq s).phase = s.phase ∧ (resetNode addr eq s).ring = s.ring ∧
      (resetNode addr eq s).delivery = s.delivery ∧ (resetNode addr eq s).air = s.air ∧
      (resetNode addr eq s).fans = s.fans ∧ (resetNode addr eq s).guide = s.guide ∧
      (resetNode addr eq s).light = s.light ∧ (resetNode addr eq s).faults.flags = s.faults.flags ∧
      (resetNode addr eq s).faults.alert = s.faults.alert ∧ (resetNode addr eq s).faults.gasHigh = s.faults.gasHigh ∧
      (resetNode addr eq s).faults.shortfall = s.faults.shortfall ∧
      (resetNode addr eq s).faults.risen = s.faults.risen ∧ (resetNode addr eq s).faults.notice = s.faults.notice ∧
      (resetNode addr eq s).faults.noticeNumber = s.faults.noticeNumber ∧ (resetNode addr eq s).fire = s.fire ∧
      (resetNode addr eq s).mgmt = s.mgmt ∧ (resetNode addr eq s).tables = s.tables ∧
      (resetNode addr eq s).store = s.store := by
  simp only [resetNode]
  repeat' split
  all_goals simp

/-- What `moveNode` leaves as it is. -/
@[simp] theorem moveNode_frame (k : NodeKind) (i old new : Nat) (s : State) :
    (moveNode k i old new s).pending = s.pending ∧ (moveNode k i old new s).clock = s.clock ∧
      (moveNode k i old new s).epoch = s.epoch ∧ (moveNode k i old new s).draws = s.draws ∧
      (moveNode k i old new s).phase = s.phase ∧ (moveNode k i old new s).ring = s.ring ∧
      (moveNode k i old new s).delivery = s.delivery ∧ (moveNode k i old new s).air = s.air ∧
      (moveNode k i old new s).fans = s.fans ∧ (moveNode k i old new s).guide = s.guide ∧
      (moveNode k i old new s).light = s.light ∧ (moveNode k i old new s).faults.flags = s.faults.flags ∧
      (moveNode k i old new s).faults.alert = s.faults.alert ∧
      (moveNode k i old new s).faults.gasHigh = s.faults.gasHigh ∧
      (moveNode k i old new s).faults.shortfall = s.faults.shortfall ∧
      (moveNode k i old new s).faults.risen = s.faults.risen ∧
      (moveNode k i old new s).faults.notice = s.faults.notice ∧
      (moveNode k i old new s).faults.noticeNumber = s.faults.noticeNumber ∧ (moveNode k i old new s).fire = s.fire ∧
      (moveNode k i old new s).mgmt = s.mgmt ∧ (moveNode k i old new s).tables = s.tables ∧
      (moveNode k i old new s).store = s.store := by
  simp only [moveNode]
  repeat' split
  all_goals simp

/-- What `hear` leaves as it is. -/
@[simp] theorem hear_frame (k : NodeKind) (addr : Nat) (s : State) :
    (hear k addr s).pending = s.pending ∧ (hear k addr s).clock = s.clock ∧ (hear k addr s).epoch = s.epoch ∧
      (hear k addr s).draws = s.draws ∧ (hear k addr s).phase = s.phase ∧ (hear k addr s).ring = s.ring ∧
      (hear k addr s).delivery = s.delivery ∧ (hear k addr s).air = s.air ∧ (hear k addr s).fans = s.fans ∧
      (hear k addr s).guide = s.guide ∧ (hear k addr s).light = s.light ∧
      (hear k addr s).faults.flags = s.faults.flags ∧ (hear k addr s).faults.alert = s.faults.alert ∧
      (hear k addr s).faults.gasHigh = s.faults.gasHigh ∧ (hear k addr s).faults.shortfall = s.faults.shortfall ∧
      (hear k addr s).faults.risen = s.faults.risen ∧ (hear k addr s).faults.notice = s.faults.notice ∧
      (hear k addr s).faults.noticeNumber = s.faults.noticeNumber ∧ (hear k addr s).fire = s.fire ∧
      (hear k addr s).mgmt = s.mgmt ∧ (hear k addr s).tables = s.tables ∧ (hear k addr s).store = s.store := by
  simp only [hear]
  repeat' split
  all_goals simp

/-- What `acceptGas` leaves as it is. -/
@[simp] theorem acceptGas_frame (i addr : Nat) (first : Bool) (x : GasReport) (s : State) :
    (acceptGas i addr first x s).pending = s.pending ∧ (acceptGas i addr first x s).clock = s.clock ∧
      (acceptGas i addr first x s).epoch = s.epoch ∧ (acceptGas i addr first x s).draws = s.draws ∧
      (acceptGas i addr first x s).phase = s.phase ∧
      (acceptGas i addr first x s).ring.ownAddress = s.ring.ownAddress ∧
      (acceptGas i addr first x s).ring.rate = s.ring.rate ∧
      (acceptGas i addr first x s).ring.relayQueue = s.ring.relayQueue ∧
      (acceptGas i addr first x s).ring.runCount = s.ring.runCount ∧
      (acceptGas i addr first x s).ring.relayed = s.ring.relayed ∧
      (acceptGas i addr first x s).ring.badCheck = s.ring.badCheck ∧
      (acceptGas i addr first x s).ring.hopExpiry = s.ring.hopExpiry ∧
      (acceptGas i addr first x s).ring.relayFull = s.ring.relayFull ∧
      (acceptGas i addr first x s).ring.ringSilent = s.ring.ringSilent ∧
      (acceptGas i addr first x s).ring.silenceTimer = s.ring.silenceTimer ∧
      (acceptGas i addr first x s).ring.portB = s.ring.portB ∧
      (acceptGas i addr first x s).delivery.tagCounter = s.delivery.tagCounter ∧
      (acceptGas i addr first x s).delivery.noTake = s.delivery.noTake ∧
      (acceptGas i addr first x s).air.zones = s.air.zones ∧
      (acceptGas i addr first x s).air.evaluationTimer = s.air.evaluationTimer ∧
      (acceptGas i addr first x s).guide.bays = s.guide.bays ∧
      (acceptGas i addr first x s).guide.rowFree = s.guide.rowFree ∧
      (acceptGas i addr first x s).guide.levels = s.guide.levels ∧
      (acceptGas i addr first x s).guide.clusterFault = s.guide.clusterFault ∧
      (acceptGas i addr first x s).light.stepTimer = s.light.stepTimer ∧
      (acceptGas i addr first x s).faults.gasHigh = s.faults.gasHigh ∧
      (acceptGas i addr first x s).faults.shortfall = s.faults.shortfall ∧
      (acceptGas i addr first x s).faults.noticeNumber = s.faults.noticeNumber ∧
      (acceptGas i addr first x s).fire = s.fire ∧ (acceptGas i addr first x s).mgmt.queue = s.mgmt.queue ∧
      (acceptGas i addr first x s).mgmt.cursor = s.mgmt.cursor ∧
      (acceptGas i addr first x s).mgmt.storeSender = s.mgmt.storeSender ∧
      (acceptGas i addr first x s).mgmt.proxySender = s.mgmt.proxySender ∧
      (acceptGas i addr first x s).mgmt.restartPending = s.mgmt.restartPending ∧
      (acceptGas i addr first x s).tables = s.tables ∧ (acceptGas i addr first x s).store = s.store := by
  simp only [acceptGas]
  repeat' split
  all_goals simp

/-- What `lanePulses` leaves as it is. -/
@[simp] theorem lanePulses_frame (i p q : Nat) (s : State) :
    (lanePulses i p q s).pending = s.pending ∧ (lanePulses i p q s).clock = s.clock ∧
      (lanePulses i p q s).epoch = s.epoch ∧ (lanePulses i p q s).draws = s.draws ∧
      (lanePulses i p q s).phase = s.phase ∧ (lanePulses i p q s).ring = s.ring ∧
      (lanePulses i p q s).nodes = s.nodes ∧ (lanePulses i p q s).delivery = s.delivery ∧
      (lanePulses i p q s).air.sensors = s.air.sensors ∧
      (lanePulses i p q s).air.evaluationTimer = s.air.evaluationTimer ∧ (lanePulses i p q s).fans = s.fans ∧
      (lanePulses i p q s).guide.bays = s.guide.bays ∧ (lanePulses i p q s).guide.rowFree = s.guide.rowFree ∧
      (lanePulses i p q s).guide.signs = s.guide.signs ∧
      (lanePulses i p q s).guide.clusterFault = s.guide.clusterFault ∧
      (lanePulses i p q s).light.stepTimer = s.light.stepTimer ∧ (lanePulses i p q s).faults = s.faults ∧
      (lanePulses i p q s).fire = s.fire ∧ (lanePulses i p q s).mgmt = s.mgmt ∧
      (lanePulses i p q s).tables = s.tables ∧ (lanePulses i p q s).store = s.store := by
  simp [lanePulses]

/-- What `acceptLane` leaves as it is. -/
@[simp] theorem acceptLane_frame (i addr : Nat) (first : Bool) (x : Nat × Nat) (s : State) :
    (acceptLane i addr first x s).pending = s.pending ∧ (acceptLane i addr first x s).clock = s.clock ∧
      (acceptLane i addr first x s).epoch = s.epoch ∧ (acceptLane i addr first x s).draws = s.draws ∧
      (acceptLane i addr first x s).phase = s.phase ∧ (acceptLane i addr first x s).ring = s.ring ∧
      (acceptLane i addr first x s).delivery = s.delivery ∧
      (acceptLane i addr first x s).air.sensors = s.air.sensors ∧
      (acceptLane i addr first x s).air.evaluationTimer = s.air.evaluationTimer ∧
      (acceptLane i addr first x s).fans = s.fans ∧ (acceptLane i addr first x s).guide.bays = s.guide.bays ∧
      (acceptLane i addr first x s).guide.rowFree = s.guide.rowFree ∧
      (acceptLane i addr first x s).guide.signs = s.guide.signs ∧
      (acceptLane i addr first x s).guide.clusterFault = s.guide.clusterFault ∧
      (acceptLane i addr first x s).light.stepTimer = s.light.stepTimer ∧
      (acceptLane i addr first x s).faults = s.faults ∧ (acceptLane i addr first x s).fire = s.fire ∧
      (acceptLane i addr first x s).mgmt = s.mgmt ∧ (acceptLane i addr first x s).tables = s.tables ∧
      (acceptLane i addr first x s).store = s.store := by
  simp only [acceptLane]
  repeat' split
  all_goals simp

/-- What `applyTest` leaves as it is. -/
@[simp] theorem applyTest_frame (i : Nat) (r : DriveReport) (ref : Nat) (k : FanTest) (p : State × List (State → State)) :
    ((applyTest i r ref k p).1).pending = p.1.pending ∧ ((applyTest i r ref k p).1).clock = p.1.clock ∧
      ((applyTest i r ref k p).1).epoch = p.1.epoch ∧ ((applyTest i r ref k p).1).draws = p.1.draws ∧
      ((applyTest i r ref k p).1).phase = p.1.phase ∧ ((applyTest i r ref k p).1).ring = p.1.ring ∧
      ((applyTest i r ref k p).1).nodes = p.1.nodes ∧ ((applyTest i r ref k p).1).delivery = p.1.delivery ∧
      ((applyTest i r ref k p).1).air = p.1.air ∧ ((applyTest i r ref k p).1).guide = p.1.guide ∧
      ((applyTest i r ref k p).1).light = p.1.light ∧ ((applyTest i r ref k p).1).faults = p.1.faults ∧
      ((applyTest i r ref k p).1).fire = p.1.fire ∧ ((applyTest i r ref k p).1).mgmt = p.1.mgmt ∧
      ((applyTest i r ref k p).1).tables = p.1.tables ∧ ((applyTest i r ref k p).1).store = p.1.store := by
  simp only [applyTest]
  repeat' split
  all_goals simp

/-- One test changes the fan block alone, and lists at most the end of one condition. -/
theorem applyTest_mem {i : Nat} {r : DriveReport} {ref : Nat} {k : FanTest} {p : State × List (State → State)}
    {f : State → State} (h : f ∈ (applyTest i r ref k p).2) : (∃ c a, f = endCondition c a) ∨ f ∈ p.2 := by
  simp only [applyTest] at h
  split at h
  · rcases List.mem_cons.mp h with h | h
    · exact .inl ⟨_, _, h⟩
    · exact .inr h
  · exact .inr h

/-- What a drive report hands to the fault block: ends of conditions and presences. -/
theorem acceptDrive_order {o : Option Nat} {i : Nat} {x : DriveReport} {t u : State} {now was : Bool} {addr : Nat}
    {f : State → State}
    (h : f ∈ (match o with
      | some ref => applyTest i x ref .overspeed (applyTest i x ref .noLoad (applyTest i x ref .stall (t, [])))
      | none => (u, [])).2 ++
      (if now && !was then [presence .fanDriveTrip addr]
       else if was && !now then [endCondition .fanDriveTrip addr] else [])) :
    (∃ c a, f = endCondition c a) ∨ ∃ c a, f = presence c a := by
  rcases List.mem_append.mp h with h | h
  · split at h
    · rcases applyTest_mem h with h | h
      · exact .inl h
      · rcases applyTest_mem h with h | h
        · exact .inl h
        · rcases applyTest_mem h with h | h
          · exact .inl h
          · simp at h
    · simp at h
  · split at h
    · exact .inr ⟨_, _, List.mem_singleton.mp h⟩
    · split at h
      · exact .inl ⟨_, _, List.mem_singleton.mp h⟩
      · simp at h

/-- What `acceptDrive` leaves as it is. -/
@[simp] theorem acceptDrive_frame (i : Nat) (x : DriveReport) (s : State) :
    (acceptDrive i x s).pending = s.pending ∧ (acceptDrive i x s).clock = s.clock ∧
      (acceptDrive i x s).epoch = s.epoch ∧ (acceptDrive i x s).phase = s.phase ∧
      (acceptDrive i x s).ring.ownAddress = s.ring.ownAddress ∧ (acceptDrive i x s).ring.rate = s.ring.rate ∧
      (acceptDrive i x s).ring.relayQueue = s.ring.relayQueue ∧ (acceptDrive i x s).ring.runCount = s.ring.runCount ∧
      (acceptDrive i x s).ring.relayed = s.ring.relayed ∧ (acceptDrive i x s).ring.badCheck = s.ring.badCheck ∧
      (acceptDrive i x s).ring.hopExpiry = s.ring.hopExpiry ∧ (acceptDrive i x s).ring.relayFull = s.ring.relayFull ∧
      (acceptDrive i x s).ring.ringSilent = s.ring.ringSilent ∧
      (acceptDrive i x s).ring.silenceTimer = s.ring.silenceTimer ∧ (acceptDrive i x s).ring.portB = s.ring.portB ∧
      (acceptDrive i x s).nodes = s.nodes ∧ (acceptDrive i x s).delivery.tagCounter = s.delivery.tagCounter ∧
      (acceptDrive i x s).delivery.noTake = s.delivery.noTake ∧ (acceptDrive i x s).air = s.air ∧
      (acceptDrive i x s).guide.bays = s.guide.bays ∧ (acceptDrive i x s).guide.rowFree = s.guide.rowFree ∧
      (acceptDrive i x s).guide.levels = s.guide.levels ∧
      (acceptDrive i x s).guide.clusterFault = s.guide.clusterFault ∧
      (acceptDrive i x s).light.stepTimer = s.light.stepTimer ∧
      (acceptDrive i x s).faults.gasHigh = s.faults.gasHigh ∧
      (acceptDrive i x s).faults.shortfall = s.faults.shortfall ∧
      (acceptDrive i x s).faults.noticeNumber = s.faults.noticeNumber ∧ (acceptDrive i x s).fire = s.fire ∧
      (acceptDrive i x s).mgmt.queue = s.mgmt.queue ∧ (acceptDrive i x s).mgmt.cursor = s.mgmt.cursor ∧
      (acceptDrive i x s).mgmt.storeSender = s.mgmt.storeSender ∧
      (acceptDrive i x s).mgmt.proxySender = s.mgmt.proxySender ∧
      (acceptDrive i x s).mgmt.restartPending = s.mgmt.restartPending ∧ (acceptDrive i x s).tables = s.tables ∧
      (acceptDrive i x s).store = s.store := by
  let R : State → State → Prop := fun a b =>
    b.pending = a.pending ∧ b.clock = a.clock ∧ b.epoch = a.epoch ∧ b.phase = a.phase ∧
    b.ring.ownAddress = a.ring.ownAddress ∧ b.ring.rate = a.ring.rate ∧ b.ring.relayQueue = a.ring.relayQueue ∧
    b.ring.runCount = a.ring.runCount ∧ b.ring.relayed = a.ring.relayed ∧ b.ring.badCheck = a.ring.badCheck ∧
    b.ring.hopExpiry = a.ring.hopExpiry ∧ b.ring.relayFull = a.ring.relayFull ∧
    b.ring.ringSilent = a.ring.ringSilent ∧ b.ring.silenceTimer = a.ring.silenceTimer ∧
    b.ring.portB = a.ring.portB ∧ b.nodes = a.nodes ∧ b.delivery.tagCounter = a.delivery.tagCounter ∧
    b.delivery.noTake = a.delivery.noTake ∧ b.air = a.air ∧ b.guide.bays = a.guide.bays ∧
    b.guide.rowFree = a.guide.rowFree ∧ b.guide.levels = a.guide.levels ∧
    b.guide.clusterFault = a.guide.clusterFault ∧ b.light.stepTimer = a.light.stepTimer ∧
    b.faults.gasHigh = a.faults.gasHigh ∧ b.faults.shortfall = a.faults.shortfall ∧
    b.faults.noticeNumber = a.faults.noticeNumber ∧ b.fire = a.fire ∧ b.mgmt.queue = a.mgmt.queue ∧
    b.mgmt.cursor = a.mgmt.cursor ∧ b.mgmt.storeSender = a.mgmt.storeSender ∧
    b.mgmt.proxySender = a.mgmt.proxySender ∧ b.mgmt.restartPending = a.mgmt.restartPending ∧ b.tables = a.tables ∧
    b.store = a.store
  have tr : ∀ {a b c : State}, R a b → R b c → R a c := by intro a b c h1 h2; simp_all [R]
  unfold acceptDrive
  refine tr ?_ (inAnyOrder_frame (R := R) (by intro t; simp [R]) tr (by intro t n; simp [R]) ?_ _)
  · dsimp only [R]; split <;> simp
  · intro f hf t
    rcases acceptDrive_order hf with ⟨c, a, rfl⟩ | ⟨c, a, rfl⟩ <;> simp [R]

/-- What `motionIncrease` leaves as it is. -/
@[simp] theorem motionIncrease_frame (i n : Nat) (s : State) :
    (motionIncrease i n s).pending = s.pending ∧ (motionIncrease i n s).clock = s.clock ∧
      (motionIncrease i n s).epoch = s.epoch ∧ (motionIncrease i n s).draws = s.draws ∧
      (motionIncrease i n s).phase = s.phase ∧ (motionIncrease i n s).ring = s.ring ∧
      (motionIncrease i n s).nodes = s.nodes ∧ (motionIncrease i n s).delivery = s.delivery ∧
      (motionIncrease i n s).air.sensors = s.air.sensors ∧
      (motionIncrease i n s).air.evaluationTimer = s.air.evaluationTimer ∧ (motionIncrease i n s).fans = s.fans ∧
      (motionIncrease i n s).guide = s.guide ∧ (motionIncrease i n s).light.stepTimer = s.light.stepTimer ∧
      (motionIncrease i n s).faults = s.faults ∧ (motionIncrease i n s).fire = s.fire ∧
      (motionIncrease i n s).mgmt = s.mgmt ∧ (motionIncrease i n s).tables = s.tables ∧
      (motionIncrease i n s).store = s.store := by
  simp only [motionIncrease]
  repeat' split
  all_goals simp

/-- What `acceptLuminaire` leaves as it is. -/
@[simp] theorem acceptLuminaire_frame (i addr : Nat) (first : Bool) (x : LampReport × Nat) (s : State) :
    (acceptLuminaire i addr first x s).pending = s.pending ∧ (acceptLuminaire i addr first x s).clock = s.clock ∧
      (acceptLuminaire i addr first x s).epoch = s.epoch ∧ (acceptLuminaire i addr first x s).draws = s.draws ∧
      (acceptLuminaire i addr first x s).phase = s.phase ∧ (acceptLuminaire i addr first x s).ring = s.ring ∧
      (acceptLuminaire i addr first x s).delivery = s.delivery ∧
      (acceptLuminaire i addr first x s).air.sensors = s.air.sensors ∧
      (acceptLuminaire i addr first x s).air.evaluationTimer = s.air.evaluationTimer ∧
      (acceptLuminaire i addr first x s).fans = s.fans ∧ (acceptLuminaire i addr first x s).guide = s.guide ∧
      (acceptLuminaire i addr first x s).light.stepTimer = s.light.stepTimer ∧
      (acceptLuminaire i addr first x s).faults.flags = s.faults.flags ∧
      (acceptLuminaire i addr first x s).faults.alert = s.faults.alert ∧
      (acceptLuminaire i addr first x s).faults.gasHigh = s.faults.gasHigh ∧
      (acceptLuminaire i addr first x s).faults.shortfall = s.faults.shortfall ∧
      (acceptLuminaire i addr first x s).faults.risen = s.faults.risen ∧
      (acceptLuminaire i addr first x s).faults.notice = s.faults.notice ∧
      (acceptLuminaire i addr first x s).faults.noticeNumber = s.faults.noticeNumber ∧
      (acceptLuminaire i addr first x s).fire = s.fire ∧ (acceptLuminaire i addr first x s).mgmt = s.mgmt ∧
      (acceptLuminaire i addr first x s).tables = s.tables ∧ (acceptLuminaire i addr first x s).store = s.store := by
  simp only [acceptLuminaire]
  repeat' split
  all_goals simp

/-- What `report` leaves as it is. -/
@[simp] theorem report_frame (source : Nat) (payload : List Byte) (s : State) :
    (report source payload s).pending = s.pending ∧ (report source payload s).clock = s.clock ∧
      (report source payload s).epoch = s.epoch ∧ (report source payload s).phase = s.phase ∧
      (report source payload s).ring.ownAddress = s.ring.ownAddress ∧
      (report source payload s).ring.rate = s.ring.rate ∧
      (report source payload s).ring.relayQueue = s.ring.relayQueue ∧
      (report source payload s).ring.runCount = s.ring.runCount ∧
      (report source payload s).ring.relayed = s.ring.relayed ∧
      (report source payload s).ring.badCheck = s.ring.badCheck ∧
      (report source payload s).ring.hopExpiry = s.ring.hopExpiry ∧
      (report source payload s).ring.relayFull = s.ring.relayFull ∧
      (report source payload s).ring.ringSilent = s.ring.ringSilent ∧
      (report source payload s).ring.silenceTimer = s.ring.silenceTimer ∧
      (report source payload s).ring.portB = s.ring.portB ∧
      (report source payload s).delivery.tagCounter = s.delivery.tagCounter ∧
      (report source payload s).delivery.noTake = s.delivery.noTake ∧
      (report source payload s).air.evaluationTimer = s.air.evaluationTimer ∧
      (report source payload s).light.stepTimer = s.light.stepTimer ∧
      (report source payload s).faults.gasHigh = s.faults.gasHigh ∧
      (report source payload s).faults.shortfall = s.faults.shortfall ∧
      (report source payload s).faults.noticeNumber = s.faults.noticeNumber ∧
      (report source payload s).fire = s.fire ∧ (report source payload s).mgmt.queue = s.mgmt.queue ∧
      (report source payload s).mgmt.cursor = s.mgmt.cursor ∧
      (report source payload s).mgmt.storeSender = s.mgmt.storeSender ∧
      (report source payload s).mgmt.proxySender = s.mgmt.proxySender ∧
      (report source payload s).mgmt.restartPending = s.mgmt.restartPending ∧
      (report source payload s).tables = s.tables ∧ (report source payload s).store = s.store := by
  simp only [report]
  repeat' split
  all_goals simp

/-- What `silenceEffect` leaves as it is. -/
@[simp] theorem silenceEffect_frame (k : NodeKind) (i : Nat) (s : State) :
    (silenceEffect k i s).pending = s.pending ∧ (silenceEffect k i s).clock = s.clock ∧
      (silenceEffect k i s).epoch = s.epoch ∧ (silenceEffect k i s).draws = s.draws ∧
      (silenceEffect k i s).phase = s.phase ∧ (silenceEffect k i s).ring = s.ring ∧
      (silenceEffect k i s).nodes = s.nodes ∧ (silenceEffect k i s).delivery = s.delivery ∧
      (silenceEffect k i s).air = s.air ∧ (silenceEffect k i s).guide.signs = s.guide.signs ∧
      (silenceEffect k i s).guide.clusterFault = s.guide.clusterFault ∧
      (silenceEffect k i s).light.stepTimer = s.light.stepTimer ∧ (silenceEffect k i s).faults = s.faults ∧
      (silenceEffect k i s).fire = s.fire ∧ (silenceEffect k i s).mgmt = s.mgmt ∧
      (silenceEffect k i s).tables = s.tables ∧ (silenceEffect k i s).store = s.store := by
  simp only [silenceEffect]
  repeat' split
  all_goals simp

/-- What `nodeSilenced` leaves as it is. -/
@[simp] theorem nodeSilenced_frame (addr : Nat) (s : State) :
    (nodeSilenced addr s).pending = s.pending ∧ (nodeSilenced addr s).clock = s.clock ∧
      (nodeSilenced addr s).epoch = s.epoch ∧ (nodeSilenced addr s).draws = s.draws ∧
      (nodeSilenced addr s).phase = s.phase ∧ (nodeSilenced addr s).ring.ownAddress = s.ring.ownAddress ∧
      (nodeSilenced addr s).ring.rate = s.ring.rate ∧ (nodeSilenced addr s).ring.relayQueue = s.ring.relayQueue ∧
      (nodeSilenced addr s).ring.runCount = s.ring.runCount ∧ (nodeSilenced addr s).ring.relayed = s.ring.relayed ∧
      (nodeSilenced addr s).ring.badCheck = s.ring.badCheck ∧
      (nodeSilenced addr s).ring.hopExpiry = s.ring.hopExpiry ∧
      (nodeSilenced addr s).ring.relayFull = s.ring.relayFull ∧
      (nodeSilenced addr s).ring.ringSilent = s.ring.ringSilent ∧
      (nodeSilenced addr s).ring.silenceTimer = s.ring.silenceTimer ∧
      (nodeSilenced addr s).ring.portB = s.ring.portB ∧
      (nodeSilenced addr s).delivery.tagCounter = s.delivery.tagCounter ∧
      (nodeSilenced addr s).delivery.noTake = s.delivery.noTake ∧ (nodeSilenced addr s).air = s.air ∧
      (nodeSilenced addr s).guide.clusterFault = s.guide.clusterFault ∧
      (nodeSilenced addr s).light.stepTimer = s.light.stepTimer ∧
      (nodeSilenced addr s).faults.gasHigh = s.faults.gasHigh ∧
      (nodeSilenced addr s).faults.shortfall = s.faults.shortfall ∧
      (nodeSilenced addr s).faults.noticeNumber = s.faults.noticeNumber ∧ (nodeSilenced addr s).fire = s.fire ∧
      (nodeSilenced addr s).mgmt.queue = s.mgmt.queue ∧ (nodeSilenced addr s).mgmt.cursor = s.mgmt.cursor ∧
      (nodeSilenced addr s).mgmt.storeSender = s.mgmt.storeSender ∧
      (nodeSilenced addr s).mgmt.proxySender = s.mgmt.proxySender ∧
      (nodeSilenced addr s).mgmt.restartPending = s.mgmt.restartPending ∧ (nodeSilenced addr s).tables = s.tables ∧
      (nodeSilenced addr s).store = s.store := by
  simp only [nodeSilenced]
  repeat' split
  all_goals simp

end Sys2Proof.Machine
end

