-- ==== Sys2Proof/Laws/FramesTables.lean ====
section
/-! SUPPORT. Laws/FramesTables.lean: what each operation of the writes of table entries leaves as it is: one lemma an operation,
field by field of the state. -/

namespace Sys2Proof.Machine

/-- What `moveActuator` leaves as it is. -/
@[simp] theorem moveActuator_frame (a : Actuator) (old new : Nat) (s : State) :
    (moveActuator a old new s).pending = s.pending ∧ (moveActuator a old new s).clock = s.clock ∧
      (moveActuator a old new s).epoch = s.epoch ∧ (moveActuator a old new s).draws = s.draws ∧
      (moveActuator a old new s).phase = s.phase ∧ (moveActuator a old new s).ring.ownAddress = s.ring.ownAddress ∧
      (moveActuator a old new s).ring.rate = s.ring.rate ∧
      (moveActuator a old new s).ring.relayQueue = s.ring.relayQueue ∧
      (moveActuator a old new s).ring.runCount = s.ring.runCount ∧
      (moveActuator a old new s).ring.relayed = s.ring.relayed ∧
      (moveActuator a old new s).ring.badCheck = s.ring.badCheck ∧
      (moveActuator a old new s).ring.hopExpiry = s.ring.hopExpiry ∧
      (moveActuator a old new s).ring.relayFull = s.ring.relayFull ∧
      (moveActuator a old new s).ring.ringSilent = s.ring.ringSilent ∧
      (moveActuator a old new s).ring.silenceTimer = s.ring.silenceTimer ∧
      (moveActuator a old new s).ring.portB = s.ring.portB ∧ (moveActuator a old new s).nodes = s.nodes ∧
      (moveActuator a old new s).delivery.tagCounter = s.delivery.tagCounter ∧
      (moveActuator a old new s).air = s.air ∧ (moveActuator a old new s).fans = s.fans ∧
      (moveActuator a old new s).guide = s.guide ∧ (moveActuator a old new s).light = s.light ∧
      (moveActuator a old new s).faults.flags = s.faults.flags ∧
      (moveActuator a old new s).faults.alert = s.faults.alert ∧
      (moveActuator a old new s).faults.gasHigh = s.faults.gasHigh ∧
      (moveActuator a old new s).faults.shortfall = s.faults.shortfall ∧
      (moveActuator a old new s).faults.risen = s.faults.risen ∧
      (moveActuator a old new s).faults.noticeNumber = s.faults.noticeNumber ∧
      (moveActuator a old new s).fire = s.fire ∧ (moveActuator a old new s).mgmt.queue = s.mgmt.queue ∧
      (moveActuator a old new s).mgmt.cursor = s.mgmt.cursor ∧
      (moveActuator a old new s).mgmt.storeSender = s.mgmt.storeSender ∧
      (moveActuator a old new s).mgmt.proxySender = s.mgmt.proxySender ∧
      (moveActuator a old new s).mgmt.restartPending = s.mgmt.restartPending ∧
      (moveActuator a old new s).tables = s.tables ∧ (moveActuator a old new s).store = s.store := by
  simp only [moveActuator]
  repeat' split
  all_goals simp

/-- What `fanMoved` leaves as it is. -/
@[simp] theorem fanMoved_frame (old i : Nat) (s : State) :
    (fanMoved old i s).pending = s.pending ∧ (fanMoved old i s).clock = s.clock ∧
      (fanMoved old i s).epoch = s.epoch ∧ (fanMoved old i s).draws = s.draws ∧ (fanMoved old i s).phase = s.phase ∧
      (fanMoved old i s).ring = s.ring ∧ (fanMoved old i s).nodes = s.nodes ∧
      (fanMoved old i s).delivery = s.delivery ∧ (fanMoved old i s).air = s.air ∧
      (fanMoved old i s).guide = s.guide ∧ (fanMoved old i s).light = s.light ∧
      (fanMoved old i s).faults.flags = s.faults.flags ∧ (fanMoved old i s).faults.alert = s.faults.alert ∧
      (fanMoved old i s).faults.gasHigh = s.faults.gasHigh ∧
      (fanMoved old i s).faults.shortfall = s.faults.shortfall ∧ (fanMoved old i s).faults.risen = s.faults.risen ∧
      (fanMoved old i s).faults.notice = s.faults.notice ∧
      (fanMoved old i s).faults.noticeNumber = s.faults.noticeNumber ∧ (fanMoved old i s).fire = s.fire ∧
      (fanMoved old i s).mgmt = s.mgmt ∧ (fanMoved old i s).tables = s.tables ∧
      (fanMoved old i s).store = s.store := by
  simp only [fanMoved]
  repeat' split
  all_goals simp

/-- What `resetHeldFan` leaves as it is. -/
@[simp] theorem resetHeldFan_frame (i : Nat) (s : State) :
    (resetHeldFan i s).pending = s.pending ∧ (resetHeldFan i s).clock = s.clock ∧
      (resetHeldFan i s).epoch = s.epoch ∧ (resetHeldFan i s).draws = s.draws ∧ (resetHeldFan i s).phase = s.phase ∧
      (resetHeldFan i s).ring.ownAddress = s.ring.ownAddress ∧ (resetHeldFan i s).ring.rate = s.ring.rate ∧
      (resetHeldFan i s).ring.relayQueue = s.ring.relayQueue ∧ (resetHeldFan i s).ring.runCount = s.ring.runCount ∧
      (resetHeldFan i s).ring.relayed = s.ring.relayed ∧ (resetHeldFan i s).ring.badCheck = s.ring.badCheck ∧
      (resetHeldFan i s).ring.hopExpiry = s.ring.hopExpiry ∧ (resetHeldFan i s).ring.relayFull = s.ring.relayFull ∧
      (resetHeldFan i s).ring.ringSilent = s.ring.ringSilent ∧
      (resetHeldFan i s).ring.silenceTimer = s.ring.silenceTimer ∧ (resetHeldFan i s).ring.portB = s.ring.portB ∧
      (resetHeldFan i s).nodes = s.nodes ∧ (resetHeldFan i s).delivery.tagCounter = s.delivery.tagCounter ∧
      (resetHeldFan i s).delivery.proxy = s.delivery.proxy ∧ (resetHeldFan i s).delivery.noTake = s.delivery.noTake ∧
      (resetHeldFan i s).air = s.air ∧ (resetHeldFan i s).guide = s.guide ∧ (resetHeldFan i s).light = s.light ∧
      (resetHeldFan i s).faults.flags = s.faults.flags ∧ (resetHeldFan i s).faults.alert = s.faults.alert ∧
      (resetHeldFan i s).faults.gasHigh = s.faults.gasHigh ∧
      (resetHeldFan i s).faults.shortfall = s.faults.shortfall ∧ (resetHeldFan i s).faults.risen = s.faults.risen ∧
      (resetHeldFan i s).faults.notice = s.faults.notice ∧
      (resetHeldFan i s).faults.noticeNumber = s.faults.noticeNumber ∧ (resetHeldFan i s).fire = s.fire ∧
      (resetHeldFan i s).mgmt = s.mgmt ∧ (resetHeldFan i s).tables = s.tables ∧
      (resetHeldFan i s).store = s.store := by
  simp only [resetHeldFan]
  repeat' split
  all_goals simp

/-- What `groupMoved` leaves as it is. -/
@[simp] theorem groupMoved_frame (old i : Nat) (s : State) :
    (groupMoved old i s).pending = s.pending ∧ (groupMoved old i s).clock = s.clock ∧
      (groupMoved old i s).epoch = s.epoch ∧ (groupMoved old i s).draws = s.draws ∧
      (groupMoved old i s).phase = s.phase ∧ (groupMoved old i s).ring = s.ring ∧
      (groupMoved old i s).nodes = s.nodes ∧ (groupMoved old i s).delivery = s.delivery ∧
      (groupMoved old i s).air = s.air ∧ (groupMoved old i s).fans = s.fans ∧ (groupMoved old i s).guide = s.guide ∧
      (groupMoved old i s).light.stepTimer = s.light.stepTimer ∧ (groupMoved old i s).faults.flags = s.faults.flags ∧
      (groupMoved old i s).faults.alert = s.faults.alert ∧ (groupMoved old i s).faults.gasHigh = s.faults.gasHigh ∧
      (groupMoved old i s).faults.shortfall = s.faults.shortfall ∧
      (groupMoved old i s).faults.risen = s.faults.risen ∧ (groupMoved old i s).faults.notice = s.faults.notice ∧
      (groupMoved old i s).faults.noticeNumber = s.faults.noticeNumber ∧ (groupMoved old i s).fire = s.fire ∧
      (groupMoved old i s).mgmt = s.mgmt ∧ (groupMoved old i s).tables = s.tables ∧
      (groupMoved old i s).store = s.store := by
  simp [groupMoved]

/-- What `modTables` leaves as it is. -/
@[simp] theorem modTables_frame (f : Settings → Settings) (s : State) :
    (modTables f s).pending = s.pending ∧ (modTables f s).clock = s.clock ∧ (modTables f s).epoch = s.epoch ∧
      (modTables f s).draws = s.draws ∧ (modTables f s).phase = s.phase ∧ (modTables f s).ring = s.ring ∧
      (modTables f s).nodes = s.nodes ∧ (modTables f s).delivery = s.delivery ∧ (modTables f s).air = s.air ∧
      (modTables f s).fans = s.fans ∧ (modTables f s).guide = s.guide ∧ (modTables f s).light = s.light ∧
      (modTables f s).faults = s.faults ∧ (modTables f s).fire = s.fire ∧ (modTables f s).mgmt = s.mgmt ∧
      (modTables f s).store = s.store := by
  simp [modTables]

/-- What `putControl` leaves as it is. -/
@[simp] theorem putControl_frame (c : Control) (s : State) :
    (putControl c s).pending = s.pending ∧ (putControl c s).clock = s.clock ∧ (putControl c s).epoch = s.epoch ∧
      (putControl c s).draws = s.draws ∧ (putControl c s).phase = s.phase ∧ (putControl c s).ring = s.ring ∧
      (putControl c s).nodes = s.nodes ∧ (putControl c s).delivery = s.delivery ∧ (putControl c s).air = s.air ∧
      (putControl c s).fans = s.fans ∧ (putControl c s).guide = s.guide ∧ (putControl c s).light = s.light ∧
      (putControl c s).faults.list = s.faults.list ∧ (putControl c s).faults.flags = s.faults.flags ∧
      (putControl c s).faults.gasHigh = s.faults.gasHigh ∧ (putControl c s).faults.shortfall = s.faults.shortfall ∧
      (putControl c s).faults.risen = s.faults.risen ∧ (putControl c s).faults.notice = s.faults.notice ∧
      (putControl c s).faults.noticeNumber = s.faults.noticeNumber ∧ (putControl c s).fire = s.fire ∧
      (putControl c s).mgmt = s.mgmt ∧ (putControl c s).store = s.store := by
  simp [putControl]

/-- What `putZone` leaves as it is. -/
@[simp] theorem putZone_frame (i : Nat) (e : ZoneEntry) (s : State) :
    (putZone i e s).pending = s.pending ∧ (putZone i e s).clock = s.clock ∧ (putZone i e s).epoch = s.epoch ∧
      (putZone i e s).draws = s.draws ∧ (putZone i e s).phase = s.phase ∧ (putZone i e s).ring = s.ring ∧
      (putZone i e s).nodes = s.nodes ∧ (putZone i e s).delivery = s.delivery ∧ (putZone i e s).air = s.air ∧
      (putZone i e s).fans = s.fans ∧ (putZone i e s).guide = s.guide ∧ (putZone i e s).light = s.light ∧
      (putZone i e s).faults = s.faults ∧ (putZone i e s).fire = s.fire ∧ (putZone i e s).mgmt = s.mgmt ∧
      (putZone i e s).store = s.store := by
  simp [putZone]

/-- What `putGas` leaves as it is. -/
@[simp] theorem putGas_frame (i : Nat) (e : GasEntry) (s : State) :
    (putGas i e s).pending = s.pending ∧ (putGas i e s).clock = s.clock ∧ (putGas i e s).epoch = s.epoch ∧
      (putGas i e s).draws = s.draws ∧ (putGas i e s).phase = s.phase ∧ (putGas i e s).ring = s.ring ∧
      (putGas i e s).delivery = s.delivery ∧ (putGas i e s).air = s.air ∧ (putGas i e s).fans = s.fans ∧
      (putGas i e s).guide = s.guide ∧ (putGas i e s).light = s.light ∧
      (putGas i e s).faults.flags = s.faults.flags ∧ (putGas i e s).faults.alert = s.faults.alert ∧
      (putGas i e s).faults.gasHigh = s.faults.gasHigh ∧ (putGas i e s).faults.shortfall = s.faults.shortfall ∧
      (putGas i e s).faults.risen = s.faults.risen ∧ (putGas i e s).faults.notice = s.faults.notice ∧
      (putGas i e s).faults.noticeNumber = s.faults.noticeNumber ∧ (putGas i e s).fire = s.fire ∧
      (putGas i e s).mgmt = s.mgmt ∧ (putGas i e s).store = s.store := by
  simp only [putGas]
  repeat' split
  all_goals simp

/-- What `putFan` leaves as it is. -/
@[simp] theorem putFan_frame (i : Nat) (e : FanEntry) (s : State) :
    (putFan i e s).pending = s.pending ∧ (putFan i e s).clock = s.clock ∧ (putFan i e s).epoch = s.epoch ∧
      (putFan i e s).draws = s.draws ∧ (putFan i e s).phase = s.phase ∧
      (putFan i e s).ring.ownAddress = s.ring.ownAddress ∧ (putFan i e s).ring.rate = s.ring.rate ∧
      (putFan i e s).ring.relayQueue = s.ring.relayQueue ∧ (putFan i e s).ring.runCount = s.ring.runCount ∧
      (putFan i e s).ring.relayed = s.ring.relayed ∧ (putFan i e s).ring.badCheck = s.ring.badCheck ∧
      (putFan i e s).ring.hopExpiry = s.ring.hopExpiry ∧ (putFan i e s).ring.relayFull = s.ring.relayFull ∧
      (putFan i e s).ring.ringSilent = s.ring.ringSilent ∧ (putFan i e s).ring.silenceTimer = s.ring.silenceTimer ∧
      (putFan i e s).ring.portB = s.ring.portB ∧ (putFan i e s).delivery.tagCounter = s.delivery.tagCounter ∧
      (putFan i e s).air = s.air ∧ (putFan i e s).guide.bays = s.guide.bays ∧
      (putFan i e s).guide.rowFree = s.guide.rowFree ∧ (putFan i e s).guide.levels = s.guide.levels ∧
      (putFan i e s).guide.clusterFault = s.guide.clusterFault ∧ (putFan i e s).light.stepTimer = s.light.stepTimer ∧
      (putFan i e s).faults.flags = s.faults.flags ∧ (putFan i e s).faults.alert = s.faults.alert ∧
      (putFan i e s).faults.gasHigh = s.faults.gasHigh ∧ (putFan i e s).faults.shortfall = s.faults.shortfall ∧
      (putFan i e s).faults.risen = s.faults.risen ∧ (putFan i e s).faults.noticeNumber = s.faults.noticeNumber ∧
      (putFan i e s).fire = s.fire ∧ (putFan i e s).mgmt.queue = s.mgmt.queue ∧
      (putFan i e s).mgmt.cursor = s.mgmt.cursor ∧ (putFan i e s).mgmt.storeSender = s.mgmt.storeSender ∧
      (putFan i e s).mgmt.proxySender = s.mgmt.proxySender ∧
      (putFan i e s).mgmt.restartPending = s.mgmt.restartPending ∧ (putFan i e s).store = s.store := by
  simp only [putFan]
  repeat' split
  all_goals simp

/-- What `bayForgotten` leaves as it is. -/
@[simp] theorem bayForgotten_frame (b : Nat) (s : State) :
    (bayForgotten b s).pending = s.pending ∧ (bayForgotten b s).clock = s.clock ∧
      (bayForgotten b s).epoch = s.epoch ∧ (bayForgotten b s).draws = s.draws ∧ (bayForgotten b s).phase = s.phase ∧
      (bayForgotten b s).ring = s.ring ∧ (bayForgotten b s).nodes = s.nodes ∧
      (bayForgotten b s).delivery = s.delivery ∧ (bayForgotten b s).air = s.air ∧ (bayForgotten b s).fans = s.fans ∧
      (bayForgotten b s).guide.rowFree = s.guide.rowFree ∧ (bayForgotten b s).guide.levels = s.guide.levels ∧
      (bayForgotten b s).guide.signs = s.guide.signs ∧ (bayForgotten b s).guide.clusterFault = s.guide.clusterFault ∧
      (bayForgotten b s).light = s.light ∧ (bayForgotten b s).faults = s.faults ∧ (bayForgotten b s).fire = s.fire ∧
      (bayForgotten b s).mgmt = s.mgmt ∧ (bayForgotten b s).tables = s.tables ∧
      (bayForgotten b s).store = s.store := by
  simp [bayForgotten]

/-- What `baysForgotten` leaves as it is. -/
@[simp] theorem baysForgotten_frame (l : List Nat) (s : State) :
    (forList l bayForgotten s).pending = s.pending ∧ (forList l bayForgotten s).clock = s.clock ∧
      (forList l bayForgotten s).epoch = s.epoch ∧ (forList l bayForgotten s).draws = s.draws ∧
      (forList l bayForgotten s).phase = s.phase ∧ (forList l bayForgotten s).ring = s.ring ∧
      (forList l bayForgotten s).nodes = s.nodes ∧ (forList l bayForgotten s).delivery = s.delivery ∧
      (forList l bayForgotten s).air = s.air ∧ (forList l bayForgotten s).fans = s.fans ∧
      (forList l bayForgotten s).guide.rowFree = s.guide.rowFree ∧
      (forList l bayForgotten s).guide.levels = s.guide.levels ∧
      (forList l bayForgotten s).guide.signs = s.guide.signs ∧
      (forList l bayForgotten s).guide.clusterFault = s.guide.clusterFault ∧
      (forList l bayForgotten s).light = s.light ∧ (forList l bayForgotten s).faults = s.faults ∧
      (forList l bayForgotten s).fire = s.fire ∧ (forList l bayForgotten s).mgmt = s.mgmt ∧
      (forList l bayForgotten s).tables = s.tables ∧ (forList l bayForgotten s).store = s.store := by
  refine forList_frame (R := fun a b =>
    b.pending = a.pending ∧ b.clock = a.clock ∧ b.epoch = a.epoch ∧ b.draws = a.draws ∧ b.phase = a.phase ∧
    b.ring = a.ring ∧ b.nodes = a.nodes ∧ b.delivery = a.delivery ∧ b.air = a.air ∧ b.fans = a.fans ∧
    b.guide.rowFree = a.guide.rowFree ∧ b.guide.levels = a.guide.levels ∧ b.guide.signs = a.guide.signs ∧
    b.guide.clusterFault = a.guide.clusterFault ∧ b.light = a.light ∧ b.faults = a.faults ∧ b.fire = a.fire ∧
    b.mgmt = a.mgmt ∧ b.tables = a.tables ∧ b.store = a.store) ?_ ?_ ?_ l s
  · intro t; simp
  · intro a b c h1 h2; simp_all
  · intro i t; simp

/-- What `putCluster` leaves as it is. -/
@[simp] theorem putCluster_frame (i : Nat) (e : ClusterEntry) (s : State) :
    (putCluster i e s).pending = s.pending ∧ (putCluster i e s).clock = s.clock ∧
      (putCluster i e s).epoch = s.epoch ∧ (putCluster i e s).draws = s.draws ∧ (putCluster i e s).phase = s.phase ∧
      (putCluster i e s).ring.ownAddress = s.ring.ownAddress ∧ (putCluster i e s).ring.rate = s.ring.rate ∧
      (putCluster i e s).ring.relayQueue = s.ring.relayQueue ∧ (putCluster i e s).ring.runCount = s.ring.runCount ∧
      (putCluster i e s).ring.relayed = s.ring.relayed ∧ (putCluster i e s).ring.badCheck = s.ring.badCheck ∧
      (putCluster i e s).ring.hopExpiry = s.ring.hopExpiry ∧ (putCluster i e s).ring.relayFull = s.ring.relayFull ∧
      (putCluster i e s).ring.ringSilent = s.ring.ringSilent ∧
      (putCluster i e s).ring.silenceTimer = s.ring.silenceTimer ∧ (putCluster i e s).ring.portB = s.ring.portB ∧
      (putCluster i e s).delivery.tagCounter = s.delivery.tagCounter ∧
      (putCluster i e s).delivery.proxy = s.delivery.proxy ∧ (putCluster i e s).delivery.noTake = s.delivery.noTake ∧
      (putCluster i e s).air = s.air ∧ (putCluster i e s).fans = s.fans ∧ (putCluster i e s).light = s.light ∧
      (putCluster i e s).faults.flags = s.faults.flags ∧ (putCluster i e s).faults.alert = s.faults.alert ∧
      (putCluster i e s).faults.gasHigh = s.faults.gasHigh ∧
      (putCluster i e s).faults.shortfall = s.faults.shortfall ∧ (putCluster i e s).faults.risen = s.faults.risen ∧
      (putCluster i e s).faults.notice = s.faults.notice ∧
      (putCluster i e s).faults.noticeNumber = s.faults.noticeNumber ∧ (putCluster i e s).fire = s.fire ∧
      (putCluster i e s).mgmt = s.mgmt ∧ (putCluster i e s).store = s.store := by
  simp only [putCluster]
  repeat' split
  all_goals simp

/-- What `putBay` leaves as it is. -/
@[simp] theorem putBay_frame (i : Nat) (e : BayEntry) (s : State) :
    (putBay i e s).pending = s.pending ∧ (putBay i e s).clock = s.clock ∧ (putBay i e s).epoch = s.epoch ∧
      (putBay i e s).draws = s.draws ∧ (putBay i e s).phase = s.phase ∧
      (putBay i e s).ring.ownAddress = s.ring.ownAddress ∧ (putBay i e s).ring.rate = s.ring.rate ∧
      (putBay i e s).ring.relayQueue = s.ring.relayQueue ∧ (putBay i e s).ring.runCount = s.ring.runCount ∧
      (putBay i e s).ring.relayed = s.ring.relayed ∧ (putBay i e s).ring.badCheck = s.ring.badCheck ∧
      (putBay i e s).ring.hopExpiry = s.ring.hopExpiry ∧ (putBay i e s).ring.relayFull = s.ring.relayFull ∧
      (putBay i e s).ring.ringSilent = s.ring.ringSilent ∧ (putBay i e s).ring.silenceTimer = s.ring.silenceTimer ∧
      (putBay i e s).ring.portB = s.ring.portB ∧ (putBay i e s).nodes = s.nodes ∧
      (putBay i e s).delivery.tagCounter = s.delivery.tagCounter ∧ (putBay i e s).delivery.proxy = s.delivery.proxy ∧
      (putBay i e s).delivery.noTake = s.delivery.noTake ∧ (putBay i e s).air = s.air ∧
      (putBay i e s).fans = s.fans ∧ (putBay i e s).guide.bays = s.guide.bays ∧
      (putBay i e s).guide.clusterFault = s.guide.clusterFault ∧ (putBay i e s).light = s.light ∧
      (putBay i e s).faults = s.faults ∧ (putBay i e s).fire = s.fire ∧ (putBay i e s).mgmt = s.mgmt ∧
      (putBay i e s).store = s.store := by
  simp [putBay]

/-- What `putRow` leaves as it is. -/
@[simp] theorem putRow_frame (i : Nat) (e : RowEntry) (s : State) :
    (putRow i e s).pending = s.pending ∧ (putRow i e s).clock = s.clock ∧ (putRow i e s).epoch = s.epoch ∧
      (putRow i e s).draws = s.draws ∧ (putRow i e s).phase = s.phase ∧
      (putRow i e s).ring.ownAddress = s.ring.ownAddress ∧ (putRow i e s).ring.rate = s.ring.rate ∧
      (putRow i e s).ring.relayQueue = s.ring.relayQueue ∧ (putRow i e s).ring.runCount = s.ring.runCount ∧
      (putRow i e s).ring.relayed = s.ring.relayed ∧ (putRow i e s).ring.badCheck = s.ring.badCheck ∧
      (putRow i e s).ring.hopExpiry = s.ring.hopExpiry ∧ (putRow i e s).ring.relayFull = s.ring.relayFull ∧
      (putRow i e s).ring.ringSilent = s.ring.ringSilent ∧ (putRow i e s).ring.silenceTimer = s.ring.silenceTimer ∧
      (putRow i e s).ring.portB = s.ring.portB ∧ (putRow i e s).nodes = s.nodes ∧
      (putRow i e s).delivery.tagCounter = s.delivery.tagCounter ∧ (putRow i e s).delivery.proxy = s.delivery.proxy ∧
      (putRow i e s).delivery.noTake = s.delivery.noTake ∧ (putRow i e s).air = s.air ∧
      (putRow i e s).fans = s.fans ∧ (putRow i e s).guide.bays = s.guide.bays ∧
      (putRow i e s).guide.clusterFault = s.guide.clusterFault ∧ (putRow i e s).light = s.light ∧
      (putRow i e s).faults = s.faults ∧ (putRow i e s).fire = s.fire ∧ (putRow i e s).mgmt = s.mgmt ∧
      (putRow i e s).store = s.store := by
  simp [putRow]

/-- What `putLevel` leaves as it is. -/
@[simp] theorem putLevel_frame (i : Nat) (e : LevelEntry) (s : State) :
    (putLevel i e s).pending = s.pending ∧ (putLevel i e s).clock = s.clock ∧ (putLevel i e s).epoch = s.epoch ∧
      (putLevel i e s).draws = s.draws ∧ (putLevel i e s).phase = s.phase ∧
      (putLevel i e s).ring.ownAddress = s.ring.ownAddress ∧ (putLevel i e s).ring.rate = s.ring.rate ∧
      (putLevel i e s).ring.relayQueue = s.ring.relayQueue ∧ (putLevel i e s).ring.runCount = s.ring.runCount ∧
      (putLevel i e s).ring.relayed = s.ring.relayed ∧ (putLevel i e s).ring.badCheck = s.ring.badCheck ∧
      (putLevel i e s).ring.hopExpiry = s.ring.hopExpiry ∧ (putLevel i e s).ring.relayFull = s.ring.relayFull ∧
      (putLevel i e s).ring.ringSilent = s.ring.ringSilent ∧
      (putLevel i e s).ring.silenceTimer = s.ring.silenceTimer ∧ (putLevel i e s).ring.portB = s.ring.portB ∧
      (putLevel i e s).nodes = s.nodes ∧ (putLevel i e s).delivery.tagCounter = s.delivery.tagCounter ∧
      (putLevel i e s).delivery.proxy = s.delivery.proxy ∧ (putLevel i e s).delivery.noTake = s.delivery.noTake ∧
      (putLevel i e s).air = s.air ∧ (putLevel i e s).fans = s.fans ∧ (putLevel i e s).guide.bays = s.guide.bays ∧
      (putLevel i e s).guide.rowFree = s.guide.rowFree ∧ (putLevel i e s).guide.clusterFault = s.guide.clusterFault ∧
      (putLevel i e s).light = s.light ∧ (putLevel i e s).faults = s.faults ∧ (putLevel i e s).fire = s.fire ∧
      (putLevel i e s).mgmt = s.mgmt ∧ (putLevel i e s).store = s.store := by
  simp only [putLevel]
  repeat' split
  all_goals simp

/-- What `putLane` leaves as it is. -/
@[simp] theorem putLane_frame (i : Nat) (e : LaneEntry) (s : State) :
    (putLane i e s).pending = s.pending ∧ (putLane i e s).clock = s.clock ∧ (putLane i e s).epoch = s.epoch ∧
      (putLane i e s).draws = s.draws ∧ (putLane i e s).phase = s.phase ∧ (putLane i e s).ring = s.ring ∧
      (putLane i e s).delivery = s.delivery ∧ (putLane i e s).air = s.air ∧ (putLane i e s).fans = s.fans ∧
      (putLane i e s).guide = s.guide ∧ (putLane i e s).light = s.light ∧
      (putLane i e s).faults.flags = s.faults.flags ∧ (putLane i e s).faults.alert = s.faults.alert ∧
      (putLane i e s).faults.gasHigh = s.faults.gasHigh ∧ (putLane i e s).faults.shortfall = s.faults.shortfall ∧
      (putLane i e s).faults.risen = s.faults.risen ∧ (putLane i e s).faults.notice = s.faults.notice ∧
      (putLane i e s).faults.noticeNumber = s.faults.noticeNumber ∧ (putLane i e s).fire = s.fire ∧
      (putLane i e s).mgmt = s.mgmt ∧ (putLane i e s).store = s.store := by
  simp only [putLane]
  repeat' split
  all_goals simp

/-- What `putSign` leaves as it is. -/
@[simp] theorem putSign_frame (i : Nat) (e : SignEntry) (s : State) :
    (putSign i e s).pending = s.pending ∧ (putSign i e s).clock = s.clock ∧ (putSign i e s).epoch = s.epoch ∧
      (putSign i e s).draws = s.draws ∧ (putSign i e s).phase = s.phase ∧
      (putSign i e s).ring.ownAddress = s.ring.ownAddress ∧ (putSign i e s).ring.rate = s.ring.rate ∧
      (putSign i e s).ring.relayQueue = s.ring.relayQueue ∧ (putSign i e s).ring.runCount = s.ring.runCount ∧
      (putSign i e s).ring.relayed = s.ring.relayed ∧ (putSign i e s).ring.badCheck = s.ring.badCheck ∧
      (putSign i e s).ring.hopExpiry = s.ring.hopExpiry ∧ (putSign i e s).ring.relayFull = s.ring.relayFull ∧
      (putSign i e s).ring.ringSilent = s.ring.ringSilent ∧ (putSign i e s).ring.silenceTimer = s.ring.silenceTimer ∧
      (putSign i e s).ring.portB = s.ring.portB ∧ (putSign i e s).delivery.tagCounter = s.delivery.tagCounter ∧
      (putSign i e s).air = s.air ∧ (putSign i e s).guide.bays = s.guide.bays ∧
      (putSign i e s).guide.rowFree = s.guide.rowFree ∧ (putSign i e s).guide.levels = s.guide.levels ∧
      (putSign i e s).guide.clusterFault = s.guide.clusterFault ∧
      (putSign i e s).light.stepTimer = s.light.stepTimer ∧ (putSign i e s).faults.flags = s.faults.flags ∧
      (putSign i e s).faults.alert = s.faults.alert ∧ (putSign i e s).faults.gasHigh = s.faults.gasHigh ∧
      (putSign i e s).faults.shortfall = s.faults.shortfall ∧ (putSign i e s).faults.risen = s.faults.risen ∧
      (putSign i e s).faults.noticeNumber = s.faults.noticeNumber ∧ (putSign i e s).fire = s.fire ∧
      (putSign i e s).mgmt.queue = s.mgmt.queue ∧ (putSign i e s).mgmt.cursor = s.mgmt.cursor ∧
      (putSign i e s).mgmt.storeSender = s.mgmt.storeSender ∧ (putSign i e s).mgmt.proxySender = s.mgmt.proxySender ∧
      (putSign i e s).mgmt.restartPending = s.mgmt.restartPending ∧ (putSign i e s).store = s.store := by
  simp only [putSign]
  repeat' split
  all_goals simp

/-- What `putGroup` leaves as it is. -/
@[simp] theorem putGroup_frame (i : Nat) (e : GroupEntry) (s : State) :
    (putGroup i e s).pending = s.pending ∧ (putGroup i e s).clock = s.clock ∧ (putGroup i e s).epoch = s.epoch ∧
      (putGroup i e s).draws = s.draws ∧ (putGroup i e s).phase = s.phase ∧
      (putGroup i e s).ring.ownAddress = s.ring.ownAddress ∧ (putGroup i e s).ring.rate = s.ring.rate ∧
      (putGroup i e s).ring.relayQueue = s.ring.relayQueue ∧ (putGroup i e s).ring.runCount = s.ring.runCount ∧
      (putGroup i e s).ring.relayed = s.ring.relayed ∧ (putGroup i e s).ring.badCheck = s.ring.badCheck ∧
      (putGroup i e s).ring.hopExpiry = s.ring.hopExpiry ∧ (putGroup i e s).ring.relayFull = s.ring.relayFull ∧
      (putGroup i e s).ring.ringSilent = s.ring.ringSilent ∧
      (putGroup i e s).ring.silenceTimer = s.ring.silenceTimer ∧ (putGroup i e s).ring.portB = s.ring.portB ∧
      (putGroup i e s).delivery.tagCounter = s.delivery.tagCounter ∧ (putGroup i e s).air = s.air ∧
      (putGroup i e s).guide.bays = s.guide.bays ∧ (putGroup i e s).guide.rowFree = s.guide.rowFree ∧
      (putGroup i e s).guide.levels = s.guide.levels ∧ (putGroup i e s).guide.clusterFault = s.guide.clusterFault ∧
      (putGroup i e s).light.stepTimer = s.light.stepTimer ∧ (putGroup i e s).faults.flags = s.faults.flags ∧
      (putGroup i e s).faults.alert = s.faults.alert ∧ (putGroup i e s).faults.gasHigh = s.faults.gasHigh ∧
      (putGroup i e s).faults.shortfall = s.faults.shortfall ∧ (putGroup i e s).faults.risen = s.faults.risen ∧
      (putGroup i e s).faults.noticeNumber = s.faults.noticeNumber ∧ (putGroup i e s).fire = s.fire ∧
      (putGroup i e s).mgmt.queue = s.mgmt.queue ∧ (putGroup i e s).mgmt.cursor = s.mgmt.cursor ∧
      (putGroup i e s).mgmt.storeSender = s.mgmt.storeSender ∧
      (putGroup i e s).mgmt.proxySender = s.mgmt.proxySender ∧
      (putGroup i e s).mgmt.restartPending = s.mgmt.restartPending ∧ (putGroup i e s).store = s.store := by
  simp only [putGroup]
  repeat' split
  all_goals simp

/-- What `judgeFans` leaves as it is. -/
@[simp] theorem judgeFans_frame  (s : State) :
    (forEach 48 (judgeEquipment .fan) s).pending = s.pending ∧ (forEach 48 (judgeEquipment .fan) s).clock = s.clock ∧
      (forEach 48 (judgeEquipment .fan) s).epoch = s.epoch ∧ (forEach 48 (judgeEquipment .fan) s).draws = s.draws ∧
      (forEach 48 (judgeEquipment .fan) s).phase = s.phase ∧
      (forEach 48 (judgeEquipment .fan) s).ring.ownAddress = s.ring.ownAddress ∧
      (forEach 48 (judgeEquipment .fan) s).ring.rate = s.ring.rate ∧
      (forEach 48 (judgeEquipment .fan) s).ring.relayQueue = s.ring.relayQueue ∧
      (forEach 48 (judgeEquipment .fan) s).ring.runCount = s.ring.runCount ∧
      (forEach 48 (judgeEquipment .fan) s).ring.relayed = s.ring.relayed ∧
      (forEach 48 (judgeEquipment .fan) s).ring.badCheck = s.ring.badCheck ∧
      (forEach 48 (judgeEquipment .fan) s).ring.hopExpiry = s.ring.hopExpiry ∧
      (forEach 48 (judgeEquipment .fan) s).ring.relayFull = s.ring.relayFull ∧
      (forEach 48 (judgeEquipment .fan) s).ring.ringSilent = s.ring.ringSilent ∧
      (forEach 48 (judgeEquipment .fan) s).ring.silenceTimer = s.ring.silenceTimer ∧
      (forEach 48 (judgeEquipment .fan) s).ring.portB = s.ring.portB ∧
      (forEach 48 (judgeEquipment .fan) s).nodes = s.nodes ∧
      (forEach 48 (judgeEquipment .fan) s).delivery.tagCounter = s.delivery.tagCounter ∧
      (forEach 48 (judgeEquipment .fan) s).delivery.noTake = s.delivery.noTake ∧
      (forEach 48 (judgeEquipment .fan) s).air = s.air ∧
      (forEach 48 (judgeEquipment .fan) s).guide.bays = s.guide.bays ∧
      (forEach 48 (judgeEquipment .fan) s).guide.rowFree = s.guide.rowFree ∧
      (forEach 48 (judgeEquipment .fan) s).guide.levels = s.guide.levels ∧
      (forEach 48 (judgeEquipment .fan) s).guide.clusterFault = s.guide.clusterFault ∧
      (forEach 48 (judgeEquipment .fan) s).light.stepTimer = s.light.stepTimer ∧
      (forEach 48 (judgeEquipment .fan) s).faults.flags = s.faults.flags ∧
      (forEach 48 (judgeEquipment .fan) s).faults.alert = s.faults.alert ∧
      (forEach 48 (judgeEquipment .fan) s).faults.gasHigh = s.faults.gasHigh ∧
      (forEach 48 (judgeEquipment .fan) s).faults.shortfall = s.faults.shortfall ∧
      (forEach 48 (judgeEquipment .fan) s).faults.risen = s.faults.risen ∧
      (forEach 48 (judgeEquipment .fan) s).faults.noticeNumber = s.faults.noticeNumber ∧
      (forEach 48 (judgeEquipment .fan) s).fire = s.fire ∧
      (forEach 48 (judgeEquipment .fan) s).mgmt.queue = s.mgmt.queue ∧
      (forEach 48 (judgeEquipment .fan) s).mgmt.cursor = s.mgmt.cursor ∧
      (forEach 48 (judgeEquipment .fan) s).mgmt.storeSender = s.mgmt.storeSender ∧
      (forEach 48 (judgeEquipment .fan) s).mgmt.proxySender = s.mgmt.proxySender ∧
      (forEach 48 (judgeEquipment .fan) s).mgmt.restartPending = s.mgmt.restartPending ∧
      (forEach 48 (judgeEquipment .fan) s).tables = s.tables ∧
      (forEach 48 (judgeEquipment .fan) s).store = s.store := by
  refine forEach_frame (R := fun a b =>
    b.pending = a.pending ∧ b.clock = a.clock ∧ b.epoch = a.epoch ∧ b.draws = a.draws ∧ b.phase = a.phase ∧
    b.ring.ownAddress = a.ring.ownAddress ∧ b.ring.rate = a.ring.rate ∧ b.ring.relayQueue = a.ring.relayQueue ∧
    b.ring.runCount = a.ring.runCount ∧ b.ring.relayed = a.ring.relayed ∧ b.ring.badCheck = a.ring.badCheck ∧
    b.ring.hopExpiry = a.ring.hopExpiry ∧ b.ring.relayFull = a.ring.relayFull ∧
    b.ring.ringSilent = a.ring.ringSilent ∧ b.ring.silenceTimer = a.ring.silenceTimer ∧
    b.ring.portB = a.ring.portB ∧ b.nodes = a.nodes ∧ b.delivery.tagCounter = a.delivery.tagCounter ∧
    b.delivery.noTake = a.delivery.noTake ∧ b.air = a.air ∧ b.guide.bays = a.guide.bays ∧
    b.guide.rowFree = a.guide.rowFree ∧ b.guide.levels = a.guide.levels ∧
    b.guide.clusterFault = a.guide.clusterFault ∧ b.light.stepTimer = a.light.stepTimer ∧
    b.faults.flags = a.faults.flags ∧ b.faults.alert = a.faults.alert ∧ b.faults.gasHigh = a.faults.gasHigh ∧
    b.faults.shortfall = a.faults.shortfall ∧ b.faults.risen = a.faults.risen ∧
    b.faults.noticeNumber = a.faults.noticeNumber ∧ b.fire = a.fire ∧ b.mgmt.queue = a.mgmt.queue ∧
    b.mgmt.cursor = a.mgmt.cursor ∧ b.mgmt.storeSender = a.mgmt.storeSender ∧
    b.mgmt.proxySender = a.mgmt.proxySender ∧ b.mgmt.restartPending = a.mgmt.restartPending ∧ b.tables = a.tables ∧
    b.store = a.store) ?_ ?_ ?_ _ _
  · intro t; simp
  · intro a b c h1 h2; simp_all
  · intro i t; simp

/-- What `putResponse` leaves as it is. -/
@[simp] theorem putResponse_frame (i : Nat) (e : ResponseEntry) (s : State) :
    (putResponse i e s).pending = s.pending ∧ (putResponse i e s).clock = s.clock ∧
      (putResponse i e s).epoch = s.epoch ∧ (putResponse i e s).draws = s.draws ∧
      (putResponse i e s).phase = s.phase ∧ (putResponse i e s).ring.ownAddress = s.ring.ownAddress ∧
      (putResponse i e s).ring.rate = s.ring.rate ∧ (putResponse i e s).ring.relayQueue = s.ring.relayQueue ∧
      (putResponse i e s).ring.runCount = s.ring.runCount ∧ (putResponse i e s).ring.relayed = s.ring.relayed ∧
      (putResponse i e s).ring.badCheck = s.ring.badCheck ∧ (putResponse i e s).ring.hopExpiry = s.ring.hopExpiry ∧
      (putResponse i e s).ring.relayFull = s.ring.relayFull ∧
      (putResponse i e s).ring.ringSilent = s.ring.ringSilent ∧
      (putResponse i e s).ring.silenceTimer = s.ring.silenceTimer ∧ (putResponse i e s).ring.portB = s.ring.portB ∧
      (putResponse i e s).nodes = s.nodes ∧ (putResponse i e s).delivery.tagCounter = s.delivery.tagCounter ∧
      (putResponse i e s).delivery.noTake = s.delivery.noTake ∧ (putResponse i e s).air = s.air ∧
      (putResponse i e s).guide.bays = s.guide.bays ∧ (putResponse i e s).guide.rowFree = s.guide.rowFree ∧
      (putResponse i e s).guide.levels = s.guide.levels ∧
      (putResponse i e s).guide.clusterFault = s.guide.clusterFault ∧
      (putResponse i e s).light.stepTimer = s.light.stepTimer ∧ (putResponse i e s).faults.flags = s.faults.flags ∧
      (putResponse i e s).faults.alert = s.faults.alert ∧ (putResponse i e s).faults.gasHigh = s.faults.gasHigh ∧
      (putResponse i e s).faults.shortfall = s.faults.shortfall ∧ (putResponse i e s).faults.risen = s.faults.risen ∧
      (putResponse i e s).faults.noticeNumber = s.faults.noticeNumber ∧ (putResponse i e s).fire = s.fire ∧
      (putResponse i e s).mgmt.queue = s.mgmt.queue ∧ (putResponse i e s).mgmt.cursor = s.mgmt.cursor ∧
      (putResponse i e s).mgmt.storeSender = s.mgmt.storeSender ∧
      (putResponse i e s).mgmt.proxySender = s.mgmt.proxySender ∧
      (putResponse i e s).mgmt.restartPending = s.mgmt.restartPending ∧ (putResponse i e s).store = s.store := by
  simp only [putResponse]
  repeat' split
  all_goals simp

/-- What `putPlan` leaves as it is. -/
@[simp] theorem putPlan_frame (i : Nat) (e : PlanEntry) (s : State) :
    (putPlan i e s).pending = s.pending ∧ (putPlan i e s).clock = s.clock ∧ (putPlan i e s).epoch = s.epoch ∧
      (putPlan i e s).draws = s.draws ∧ (putPlan i e s).phase = s.phase ∧ (putPlan i e s).ring = s.ring ∧
      (putPlan i e s).nodes = s.nodes ∧ (putPlan i e s).delivery = s.delivery ∧ (putPlan i e s).air = s.air ∧
      (putPlan i e s).fans = s.fans ∧ (putPlan i e s).guide = s.guide ∧ (putPlan i e s).light = s.light ∧
      (putPlan i e s).faults = s.faults ∧ (putPlan i e s).fire.latch = s.fire.latch ∧
      (putPlan i e s).fire.planLock = s.fire.planLock ∧ (putPlan i e s).fire.startTimers = s.fire.startTimers ∧
      (putPlan i e s).fire.fireIn = s.fire.fireIn ∧ (putPlan i e s).fire.fireHeld = s.fire.fireHeld ∧
      (putPlan i e s).fire.keysw = s.fire.keysw ∧ (putPlan i e s).mgmt = s.mgmt ∧ (putPlan i e s).tables = s.tables ∧
      (putPlan i e s).store = s.store := by
  simp [putPlan]

/-- What `putEntry` answers is the entry it read, written. -/
theorem putEntry_written {α : Type} {r : Reader α} {valid : α → Bool} {write : α → State → State} {bytes : List Byte}
    {s : State} {w : Written} (h : putEntry r valid write bytes s = some w) : ∃ e, w.1 = write e s := by
  unfold putEntry at h
  split at h
  · simp at h
  · split at h
    · simp only [Option.some.injEq] at h
      exact ⟨_, by rw [← h]⟩
    · simp at h

/-- What `writeEntry` leaves as it is. -/
theorem writeEntry_frame {table i : Nat} {bytes : List Byte} {w : Written} (s : State) (h : writeEntry table i bytes s = some w) :
    (w.1).pending = s.pending ∧ (w.1).clock = s.clock ∧ (w.1).epoch = s.epoch ∧ (w.1).draws = s.draws ∧
      (w.1).phase = s.phase ∧ (w.1).ring.ownAddress = s.ring.ownAddress ∧ (w.1).ring.rate = s.ring.rate ∧
      (w.1).ring.relayQueue = s.ring.relayQueue ∧ (w.1).ring.runCount = s.ring.runCount ∧
      (w.1).ring.relayed = s.ring.relayed ∧ (w.1).ring.badCheck = s.ring.badCheck ∧
      (w.1).ring.hopExpiry = s.ring.hopExpiry ∧ (w.1).ring.relayFull = s.ring.relayFull ∧
      (w.1).ring.ringSilent = s.ring.ringSilent ∧ (w.1).ring.silenceTimer = s.ring.silenceTimer ∧
      (w.1).ring.portB = s.ring.portB ∧ (w.1).delivery.tagCounter = s.delivery.tagCounter ∧ (w.1).air = s.air ∧
      (w.1).light.stepTimer = s.light.stepTimer ∧ (w.1).faults.flags = s.faults.flags ∧
      (w.1).faults.gasHigh = s.faults.gasHigh ∧ (w.1).faults.shortfall = s.faults.shortfall ∧
      (w.1).faults.risen = s.faults.risen ∧ (w.1).faults.noticeNumber = s.faults.noticeNumber ∧
      (w.1).fire.latch = s.fire.latch ∧ (w.1).fire.planLock = s.fire.planLock ∧
      (w.1).fire.startTimers = s.fire.startTimers ∧ (w.1).fire.fireIn = s.fire.fireIn ∧
      (w.1).fire.fireHeld = s.fire.fireHeld ∧ (w.1).fire.keysw = s.fire.keysw ∧ (w.1).mgmt.queue = s.mgmt.queue ∧
      (w.1).mgmt.cursor = s.mgmt.cursor ∧ (w.1).mgmt.storeSender = s.mgmt.storeSender ∧
      (w.1).mgmt.proxySender = s.mgmt.proxySender ∧ (w.1).mgmt.restartPending = s.mgmt.restartPending ∧
      (w.1).store = s.store := by
  unfold writeEntry at h; dsimp only at h; split at h <;> first | (obtain ⟨e, he⟩ := putEntry_written h; rw [he]; simp) | (split at h <;> simp at h <;> (subst h; simp)) | simp at h

end Sys2Proof.Machine
end

