-- ==== Sys2Proof/Laws/FramesCommands.lean ====
section
/-! SUPPORT. Laws/FramesCommands.lean: what each operation of the ring, the timers, start-up and the requests leaves as it is: one lemma an operation,
field by field of the state. -/

namespace Sys2Proof.Machine

/-- What `putRun` leaves as it is. -/
@[simp] theorem putRun_frame (table : Nat) (fuel i n c : Nat) (bytes : List Byte) (s : State) :
    ((putRun table fuel i n c bytes s).state).pending = s.pending ∧
      ((putRun table fuel i n c bytes s).state).clock = s.clock ∧
      ((putRun table fuel i n c bytes s).state).epoch = s.epoch ∧
      ((putRun table fuel i n c bytes s).state).draws = s.draws ∧
      ((putRun table fuel i n c bytes s).state).phase = s.phase ∧
      ((putRun table fuel i n c bytes s).state).ring.ownAddress = s.ring.ownAddress ∧
      ((putRun table fuel i n c bytes s).state).ring.rate = s.ring.rate ∧
      ((putRun table fuel i n c bytes s).state).ring.relayQueue = s.ring.relayQueue ∧
      ((putRun table fuel i n c bytes s).state).ring.runCount = s.ring.runCount ∧
      ((putRun table fuel i n c bytes s).state).ring.relayed = s.ring.relayed ∧
      ((putRun table fuel i n c bytes s).state).ring.badCheck = s.ring.badCheck ∧
      ((putRun table fuel i n c bytes s).state).ring.hopExpiry = s.ring.hopExpiry ∧
      ((putRun table fuel i n c bytes s).state).ring.relayFull = s.ring.relayFull ∧
      ((putRun table fuel i n c bytes s).state).ring.ringSilent = s.ring.ringSilent ∧
      ((putRun table fuel i n c bytes s).state).ring.silenceTimer = s.ring.silenceTimer ∧
      ((putRun table fuel i n c bytes s).state).ring.portB = s.ring.portB ∧
      ((putRun table fuel i n c bytes s).state).delivery.tagCounter = s.delivery.tagCounter ∧
      ((putRun table fuel i n c bytes s).state).air = s.air ∧
      ((putRun table fuel i n c bytes s).state).light.stepTimer = s.light.stepTimer ∧
      ((putRun table fuel i n c bytes s).state).faults.flags = s.faults.flags ∧
      ((putRun table fuel i n c bytes s).state).faults.gasHigh = s.faults.gasHigh ∧
      ((putRun table fuel i n c bytes s).state).faults.shortfall = s.faults.shortfall ∧
      ((putRun table fuel i n c bytes s).state).faults.risen = s.faults.risen ∧
      ((putRun table fuel i n c bytes s).state).faults.noticeNumber = s.faults.noticeNumber ∧
      ((putRun table fuel i n c bytes s).state).fire.latch = s.fire.latch ∧
      ((putRun table fuel i n c bytes s).state).fire.planLock = s.fire.planLock ∧
      ((putRun table fuel i n c bytes s).state).fire.startTimers = s.fire.startTimers ∧
      ((putRun table fuel i n c bytes s).state).fire.fireIn = s.fire.fireIn ∧
      ((putRun table fuel i n c bytes s).state).fire.fireHeld = s.fire.fireHeld ∧
      ((putRun table fuel i n c bytes s).state).fire.keysw = s.fire.keysw ∧
      ((putRun table fuel i n c bytes s).state).mgmt.queue = s.mgmt.queue ∧
      ((putRun table fuel i n c bytes s).state).mgmt.cursor = s.mgmt.cursor ∧
      ((putRun table fuel i n c bytes s).state).mgmt.storeSender = s.mgmt.storeSender ∧
      ((putRun table fuel i n c bytes s).state).mgmt.proxySender = s.mgmt.proxySender ∧
      ((putRun table fuel i n c bytes s).state).mgmt.restartPending = s.mgmt.restartPending ∧
      ((putRun table fuel i n c bytes s).state).store = s.store := by
  induction fuel generalizing i n c bytes s with
  | zero => simp [putRun]
  | succ k ih =>
    simp only [putRun]
    split
    · simp
    · split
      · simp
      · split
        · simp
        · rename_i h; have hw := writeEntry_frame s h; dsimp only at hw; simp [ih, hw]

/-- What `ringHeard` leaves as it is. -/
@[simp] theorem ringHeard_frame  (s : State) :
    (ringHeard s).pending = s.pending ∧ (ringHeard s).clock = s.clock ∧ (ringHeard s).epoch = s.epoch ∧
      (ringHeard s).draws = s.draws ∧ (ringHeard s).phase = s.phase ∧
      (ringHeard s).ring.ownAddress = s.ring.ownAddress ∧ (ringHeard s).ring.rate = s.ring.rate ∧
      (ringHeard s).ring.relayQueue = s.ring.relayQueue ∧ (ringHeard s).ring.insertion = s.ring.insertion ∧
      (ringHeard s).ring.claims = s.ring.claims ∧ (ringHeard s).ring.runCount = s.ring.runCount ∧
      (ringHeard s).ring.relayed = s.ring.relayed ∧ (ringHeard s).ring.badCheck = s.ring.badCheck ∧
      (ringHeard s).ring.hopExpiry = s.ring.hopExpiry ∧ (ringHeard s).ring.relayFull = s.ring.relayFull ∧
      (ringHeard s).ring.portB = s.ring.portB ∧ (ringHeard s).ring.nextEntry = s.ring.nextEntry ∧
      (ringHeard s).nodes = s.nodes ∧ (ringHeard s).delivery = s.delivery ∧ (ringHeard s).air = s.air ∧
      (ringHeard s).fans = s.fans ∧ (ringHeard s).guide = s.guide ∧ (ringHeard s).light = s.light ∧
      (ringHeard s).faults.flags = s.faults.flags ∧ (ringHeard s).faults.alert = s.faults.alert ∧
      (ringHeard s).faults.gasHigh = s.faults.gasHigh ∧ (ringHeard s).faults.shortfall = s.faults.shortfall ∧
      (ringHeard s).faults.risen = s.faults.risen ∧ (ringHeard s).faults.notice = s.faults.notice ∧
      (ringHeard s).faults.noticeNumber = s.faults.noticeNumber ∧ (ringHeard s).fire = s.fire ∧
      (ringHeard s).mgmt = s.mgmt ∧ (ringHeard s).tables = s.tables ∧ (ringHeard s).store = s.store := by
  simp only [ringHeard]
  repeat' split
  all_goals simp

/-- What `ringFallsSilent` leaves as it is. -/
@[simp] theorem ringFallsSilent_frame  (s : State) :
    (ringFallsSilent s).pending = s.pending ∧ (ringFallsSilent s).clock = s.clock ∧
      (ringFallsSilent s).epoch = s.epoch ∧ (ringFallsSilent s).draws = s.draws ∧
      (ringFallsSilent s).phase = s.phase ∧ (ringFallsSilent s).ring.ownAddress = s.ring.ownAddress ∧
      (ringFallsSilent s).ring.rate = s.ring.rate ∧ (ringFallsSilent s).ring.relayQueue = s.ring.relayQueue ∧
      (ringFallsSilent s).ring.runCount = s.ring.runCount ∧ (ringFallsSilent s).ring.relayed = s.ring.relayed ∧
      (ringFallsSilent s).ring.badCheck = s.ring.badCheck ∧ (ringFallsSilent s).ring.hopExpiry = s.ring.hopExpiry ∧
      (ringFallsSilent s).ring.relayFull = s.ring.relayFull ∧ (ringFallsSilent s).ring.portB = s.ring.portB ∧
      (ringFallsSilent s).nodes = s.nodes ∧ (ringFallsSilent s).delivery.tagCounter = s.delivery.tagCounter ∧
      (ringFallsSilent s).delivery.noTake = s.delivery.noTake ∧ (ringFallsSilent s).air = s.air ∧
      (ringFallsSilent s).guide.bays = s.guide.bays ∧ (ringFallsSilent s).guide.rowFree = s.guide.rowFree ∧
      (ringFallsSilent s).guide.levels = s.guide.levels ∧
      (ringFallsSilent s).guide.clusterFault = s.guide.clusterFault ∧
      (ringFallsSilent s).light.stepTimer = s.light.stepTimer ∧
      (ringFallsSilent s).faults.gasHigh = s.faults.gasHigh ∧
      (ringFallsSilent s).faults.shortfall = s.faults.shortfall ∧
      (ringFallsSilent s).faults.noticeNumber = s.faults.noticeNumber ∧ (ringFallsSilent s).fire = s.fire ∧
      (ringFallsSilent s).mgmt.queue = s.mgmt.queue ∧ (ringFallsSilent s).mgmt.cursor = s.mgmt.cursor ∧
      (ringFallsSilent s).mgmt.storeSender = s.mgmt.storeSender ∧
      (ringFallsSilent s).mgmt.proxySender = s.mgmt.proxySender ∧
      (ringFallsSilent s).mgmt.restartPending = s.mgmt.restartPending ∧ (ringFallsSilent s).tables = s.tables ∧
      (ringFallsSilent s).store = s.store := by
  simp [ringFallsSilent]

/-- What `refuseSender` leaves as it is. -/
@[simp] theorem refuseSender_frame (source tag : Nat) (payload : List Byte) (s : State) :
    (refuseSender source tag payload s).pending = s.pending ∧ (refuseSender source tag payload s).clock = s.clock ∧
      (refuseSender source tag payload s).epoch = s.epoch ∧ (refuseSender source tag payload s).draws = s.draws ∧
      (refuseSender source tag payload s).phase = s.phase ∧
      (refuseSender source tag payload s).ring.ownAddress = s.ring.ownAddress ∧
      (refuseSender source tag payload s).ring.rate = s.ring.rate ∧
      (refuseSender source tag payload s).ring.relayQueue = s.ring.relayQueue ∧
      (refuseSender source tag payload s).ring.claims = s.ring.claims ∧
      (refuseSender source tag payload s).ring.runCount = s.ring.runCount ∧
      (refuseSender source tag payload s).ring.relayed = s.ring.relayed ∧
      (refuseSender source tag payload s).ring.badCheck = s.ring.badCheck ∧
      (refuseSender source tag payload s).ring.hopExpiry = s.ring.hopExpiry ∧
      (refuseSender source tag payload s).ring.relayFull = s.ring.relayFull ∧
      (refuseSender source tag payload s).ring.ringSilent = s.ring.ringSilent ∧
      (refuseSender source tag payload s).ring.silenceTimer = s.ring.silenceTimer ∧
      (refuseSender source tag payload s).ring.portB = s.ring.portB ∧
      (refuseSender source tag payload s).nodes = s.nodes ∧
      (refuseSender source tag payload s).delivery = s.delivery ∧ (refuseSender source tag payload s).air = s.air ∧
      (refuseSender source tag payload s).fans = s.fans ∧ (refuseSender source tag payload s).guide = s.guide ∧
      (refuseSender source tag payload s).light = s.light ∧ (refuseSender source tag payload s).faults = s.faults ∧
      (refuseSender source tag payload s).fire = s.fire ∧ (refuseSender source tag payload s).mgmt = s.mgmt ∧
      (refuseSender source tag payload s).tables = s.tables ∧
      (refuseSender source tag payload s).store = s.store := by
  simp only [refuseSender]
  repeat' split
  all_goals simp

/-- What `requestArrives` leaves as it is. -/
@[simp] theorem requestArrives_frame (source tag : Nat) (payload : List Byte) (s : State) :
    (requestArrives source tag payload s).pending = s.pending ∧
      (requestArrives source tag payload s).clock = s.clock ∧ (requestArrives source tag payload s).epoch = s.epoch ∧
      (requestArrives source tag payload s).draws = s.draws ∧ (requestArrives source tag payload s).phase = s.phase ∧
      (requestArrives source tag payload s).ring.ownAddress = s.ring.ownAddress ∧
      (requestArrives source tag payload s).ring.rate = s.ring.rate ∧
      (requestArrives source tag payload s).ring.relayQueue = s.ring.relayQueue ∧
      (requestArrives source tag payload s).ring.claims = s.ring.claims ∧
      (requestArrives source tag payload s).ring.runCount = s.ring.runCount ∧
      (requestArrives source tag payload s).ring.relayed = s.ring.relayed ∧
      (requestArrives source tag payload s).ring.badCheck = s.ring.badCheck ∧
      (requestArrives source tag payload s).ring.hopExpiry = s.ring.hopExpiry ∧
      (requestArrives source tag payload s).ring.relayFull = s.ring.relayFull ∧
      (requestArrives source tag payload s).ring.ringSilent = s.ring.ringSilent ∧
      (requestArrives source tag payload s).ring.silenceTimer = s.ring.silenceTimer ∧
      (requestArrives source tag payload s).ring.portB = s.ring.portB ∧
      (requestArrives source tag payload s).nodes = s.nodes ∧
      (requestArrives source tag payload s).delivery = s.delivery ∧
      (requestArrives source tag payload s).air = s.air ∧ (requestArrives source tag payload s).fans = s.fans ∧
      (requestArrives source tag payload s).guide = s.guide ∧ (requestArrives source tag payload s).light = s.light ∧
      (requestArrives source tag payload s).faults = s.faults ∧ (requestArrives source tag payload s).fire = s.fire ∧
      (requestArrives source tag payload s).mgmt.outgoing = s.mgmt.outgoing ∧
      (requestArrives source tag payload s).mgmt.cursor = s.mgmt.cursor ∧
      (requestArrives source tag payload s).mgmt.storeSender = s.mgmt.storeSender ∧
      (requestArrives source tag payload s).mgmt.proxySender = s.mgmt.proxySender ∧
      (requestArrives source tag payload s).mgmt.restartPending = s.mgmt.restartPending ∧
      (requestArrives source tag payload s).tables = s.tables ∧
      (requestArrives source tag payload s).store = s.store := by
  simp only [requestArrives]
  repeat' split
  all_goals simp

/-- What `rejectFrame` leaves as it is. -/
@[simp] theorem rejectFrame_frame  (s : State) :
    (rejectFrame s).pending = s.pending ∧ (rejectFrame s).clock = s.clock ∧ (rejectFrame s).epoch = s.epoch ∧
      (rejectFrame s).draws = s.draws ∧ (rejectFrame s).phase = s.phase ∧
      (rejectFrame s).ring.ownAddress = s.ring.ownAddress ∧ (rejectFrame s).ring.rate = s.ring.rate ∧
      (rejectFrame s).ring.relayQueue = s.ring.relayQueue ∧ (rejectFrame s).ring.insertion = s.ring.insertion ∧
      (rejectFrame s).ring.claims = s.ring.claims ∧ (rejectFrame s).ring.runCount = s.ring.runCount ∧
      (rejectFrame s).ring.relayed = s.ring.relayed ∧ (rejectFrame s).ring.hopExpiry = s.ring.hopExpiry ∧
      (rejectFrame s).ring.relayFull = s.ring.relayFull ∧ (rejectFrame s).ring.ringSilent = s.ring.ringSilent ∧
      (rejectFrame s).ring.silenceTimer = s.ring.silenceTimer ∧ (rejectFrame s).ring.portB = s.ring.portB ∧
      (rejectFrame s).ring.nextEntry = s.ring.nextEntry ∧ (rejectFrame s).nodes = s.nodes ∧
      (rejectFrame s).delivery = s.delivery ∧ (rejectFrame s).air = s.air ∧ (rejectFrame s).fans = s.fans ∧
      (rejectFrame s).guide = s.guide ∧ (rejectFrame s).light = s.light ∧ (rejectFrame s).faults = s.faults ∧
      (rejectFrame s).fire = s.fire ∧ (rejectFrame s).mgmt = s.mgmt ∧ (rejectFrame s).tables = s.tables ∧
      (rejectFrame s).store = s.store := by
  simp [rejectFrame]

/-- What `returnedOwn` leaves as it is. -/
@[simp] theorem returnedOwn_frame (f : Frame) (s : State) :
    (returnedOwn f s).pending = s.pending ∧ (returnedOwn f s).clock = s.clock ∧ (returnedOwn f s).epoch = s.epoch ∧
      (returnedOwn f s).draws = s.draws ∧ (returnedOwn f s).phase = s.phase ∧
      (returnedOwn f s).ring.ownAddress = s.ring.ownAddress ∧ (returnedOwn f s).ring.rate = s.ring.rate ∧
      (returnedOwn f s).ring.relayQueue = s.ring.relayQueue ∧ (returnedOwn f s).ring.runCount = s.ring.runCount ∧
      (returnedOwn f s).ring.relayed = s.ring.relayed ∧ (returnedOwn f s).ring.badCheck = s.ring.badCheck ∧
      (returnedOwn f s).ring.hopExpiry = s.ring.hopExpiry ∧ (returnedOwn f s).ring.relayFull = s.ring.relayFull ∧
      (returnedOwn f s).ring.ringSilent = s.ring.ringSilent ∧
      (returnedOwn f s).ring.silenceTimer = s.ring.silenceTimer ∧ (returnedOwn f s).ring.portB = s.ring.portB ∧
      (returnedOwn f s).nodes = s.nodes ∧ (returnedOwn f s).delivery.tagCounter = s.delivery.tagCounter ∧
      (returnedOwn f s).air = s.air ∧ (returnedOwn f s).guide.bays = s.guide.bays ∧
      (returnedOwn f s).guide.rowFree = s.guide.rowFree ∧ (returnedOwn f s).guide.levels = s.guide.levels ∧
      (returnedOwn f s).guide.clusterFault = s.guide.clusterFault ∧
      (returnedOwn f s).light.stepTimer = s.light.stepTimer ∧ (returnedOwn f s).faults.gasHigh = s.faults.gasHigh ∧
      (returnedOwn f s).faults.shortfall = s.faults.shortfall ∧
      (returnedOwn f s).faults.noticeNumber = s.faults.noticeNumber ∧ (returnedOwn f s).fire = s.fire ∧
      (returnedOwn f s).mgmt.queue = s.mgmt.queue ∧ (returnedOwn f s).mgmt.cursor = s.mgmt.cursor ∧
      (returnedOwn f s).mgmt.storeSender = s.mgmt.storeSender ∧
      (returnedOwn f s).mgmt.restartPending = s.mgmt.restartPending ∧ (returnedOwn f s).tables = s.tables ∧
      (returnedOwn f s).store = s.store := by
  simp only [returnedOwn]
  repeat' split
  all_goals simp

/-- What `frameForPart` leaves as it is. -/
@[simp] theorem frameForPart_frame (f : Frame) (s : State) :
    (frameForPart f s).pending = s.pending ∧ (frameForPart f s).clock = s.clock ∧
      (frameForPart f s).epoch = s.epoch ∧ (frameForPart f s).draws = s.draws ∧ (frameForPart f s).phase = s.phase ∧
      (frameForPart f s).ring.ownAddress = s.ring.ownAddress ∧ (frameForPart f s).ring.rate = s.ring.rate ∧
      (frameForPart f s).ring.relayQueue = s.ring.relayQueue ∧ (frameForPart f s).ring.claims = s.ring.claims ∧
      (frameForPart f s).ring.runCount = s.ring.runCount ∧ (frameForPart f s).ring.relayed = s.ring.relayed ∧
      (frameForPart f s).ring.badCheck = s.ring.badCheck ∧ (frameForPart f s).ring.hopExpiry = s.ring.hopExpiry ∧
      (frameForPart f s).ring.relayFull = s.ring.relayFull ∧ (frameForPart f s).ring.ringSilent = s.ring.ringSilent ∧
      (frameForPart f s).ring.silenceTimer = s.ring.silenceTimer ∧ (frameForPart f s).ring.portB = s.ring.portB ∧
      (frameForPart f s).nodes = s.nodes ∧ (frameForPart f s).delivery = s.delivery ∧
      (frameForPart f s).air = s.air ∧ (frameForPart f s).fans = s.fans ∧ (frameForPart f s).guide = s.guide ∧
      (frameForPart f s).light = s.light ∧ (frameForPart f s).faults = s.faults ∧ (frameForPart f s).fire = s.fire ∧
      (frameForPart f s).mgmt.outgoing = s.mgmt.outgoing ∧ (frameForPart f s).mgmt.cursor = s.mgmt.cursor ∧
      (frameForPart f s).mgmt.storeSender = s.mgmt.storeSender ∧
      (frameForPart f s).mgmt.proxySender = s.mgmt.proxySender ∧
      (frameForPart f s).mgmt.restartPending = s.mgmt.restartPending ∧ (frameForPart f s).tables = s.tables ∧
      (frameForPart f s).store = s.store := by
  simp only [frameForPart]
  repeat' split
  all_goals simp

/-- What `relayFrame` leaves as it is. -/
@[simp] theorem relayFrame_frame (f : Frame) (s : State) :
    (relayFrame f s).pending = s.pending ∧ (relayFrame f s).clock = s.clock ∧ (relayFrame f s).epoch = s.epoch ∧
      (relayFrame f s).draws = s.draws ∧ (relayFrame f s).phase = s.phase ∧
      (relayFrame f s).ring.ownAddress = s.ring.ownAddress ∧ (relayFrame f s).ring.rate = s.ring.rate ∧
      (relayFrame f s).ring.insertion = s.ring.insertion ∧ (relayFrame f s).ring.claims = s.ring.claims ∧
      (relayFrame f s).ring.runCount = s.ring.runCount ∧ (relayFrame f s).ring.relayed = s.ring.relayed ∧
      (relayFrame f s).ring.badCheck = s.ring.badCheck ∧ (relayFrame f s).ring.ringSilent = s.ring.ringSilent ∧
      (relayFrame f s).ring.silenceTimer = s.ring.silenceTimer ∧ (relayFrame f s).ring.portB = s.ring.portB ∧
      (relayFrame f s).ring.nextEntry = s.ring.nextEntry ∧ (relayFrame f s).nodes = s.nodes ∧
      (relayFrame f s).delivery = s.delivery ∧ (relayFrame f s).air = s.air ∧ (relayFrame f s).fans = s.fans ∧
      (relayFrame f s).guide = s.guide ∧ (relayFrame f s).light = s.light ∧ (relayFrame f s).faults = s.faults ∧
      (relayFrame f s).fire = s.fire ∧ (relayFrame f s).mgmt = s.mgmt ∧ (relayFrame f s).tables = s.tables ∧
      (relayFrame f s).store = s.store := by
  simp only [relayFrame]
  repeat' split
  all_goals simp

/-- What `passingFrame` leaves as it is. -/
@[simp] theorem passingFrame_frame (f : Frame) (s : State) :
    (passingFrame f s).pending = s.pending ∧ (passingFrame f s).clock = s.clock ∧
      (passingFrame f s).epoch = s.epoch ∧ (passingFrame f s).phase = s.phase ∧
      (passingFrame f s).ring.ownAddress = s.ring.ownAddress ∧ (passingFrame f s).ring.rate = s.ring.rate ∧
      (passingFrame f s).ring.runCount = s.ring.runCount ∧ (passingFrame f s).ring.relayed = s.ring.relayed ∧
      (passingFrame f s).ring.badCheck = s.ring.badCheck ∧ (passingFrame f s).ring.ringSilent = s.ring.ringSilent ∧
      (passingFrame f s).ring.silenceTimer = s.ring.silenceTimer ∧ (passingFrame f s).ring.portB = s.ring.portB ∧
      (passingFrame f s).delivery.tagCounter = s.delivery.tagCounter ∧
      (passingFrame f s).delivery.noTake = s.delivery.noTake ∧
      (passingFrame f s).air.evaluationTimer = s.air.evaluationTimer ∧
      (passingFrame f s).light.stepTimer = s.light.stepTimer ∧ (passingFrame f s).faults.gasHigh = s.faults.gasHigh ∧
      (passingFrame f s).faults.shortfall = s.faults.shortfall ∧
      (passingFrame f s).faults.noticeNumber = s.faults.noticeNumber ∧ (passingFrame f s).fire = s.fire ∧
      (passingFrame f s).mgmt.queue = s.mgmt.queue ∧ (passingFrame f s).mgmt.cursor = s.mgmt.cursor ∧
      (passingFrame f s).mgmt.storeSender = s.mgmt.storeSender ∧
      (passingFrame f s).mgmt.proxySender = s.mgmt.proxySender ∧
      (passingFrame f s).mgmt.restartPending = s.mgmt.restartPending ∧ (passingFrame f s).tables = s.tables ∧
      (passingFrame f s).store = s.store := by
  simp only [passingFrame]
  repeat' split
  all_goals simp

/-- What `sortFrame` leaves as it is. -/
@[simp] theorem sortFrame_frame (f : Frame) (s : State) :
    (sortFrame f s).pending = s.pending ∧ (sortFrame f s).clock = s.clock ∧ (sortFrame f s).epoch = s.epoch ∧
      (sortFrame f s).phase = s.phase ∧ (sortFrame f s).ring.ownAddress = s.ring.ownAddress ∧
      (sortFrame f s).ring.rate = s.ring.rate ∧ (sortFrame f s).ring.runCount = s.ring.runCount ∧
      (sortFrame f s).ring.relayed = s.ring.relayed ∧ (sortFrame f s).ring.badCheck = s.ring.badCheck ∧
      (sortFrame f s).ring.ringSilent = s.ring.ringSilent ∧ (sortFrame f s).ring.silenceTimer = s.ring.silenceTimer ∧
      (sortFrame f s).ring.portB = s.ring.portB ∧ (sortFrame f s).delivery.tagCounter = s.delivery.tagCounter ∧
      (sortFrame f s).air.evaluationTimer = s.air.evaluationTimer ∧
      (sortFrame f s).light.stepTimer = s.light.stepTimer ∧ (sortFrame f s).faults.gasHigh = s.faults.gasHigh ∧
      (sortFrame f s).faults.shortfall = s.faults.shortfall ∧
      (sortFrame f s).faults.noticeNumber = s.faults.noticeNumber ∧ (sortFrame f s).fire = s.fire ∧
      (sortFrame f s).mgmt.cursor = s.mgmt.cursor ∧ (sortFrame f s).mgmt.storeSender = s.mgmt.storeSender ∧
      (sortFrame f s).mgmt.restartPending = s.mgmt.restartPending ∧ (sortFrame f s).tables = s.tables ∧
      (sortFrame f s).store = s.store := by
  simp only [sortFrame]
  repeat' split
  all_goals simp

/-- What `signsFollow` leaves as it is. -/
@[simp] theorem signsFollow_frame  (s : State) :
    (signsFollow s).pending = s.pending ∧ (signsFollow s).clock = s.clock ∧ (signsFollow s).epoch = s.epoch ∧
      (signsFollow s).draws = s.draws ∧ (signsFollow s).phase = s.phase ∧
      (signsFollow s).ring.ownAddress = s.ring.ownAddress ∧ (signsFollow s).ring.rate = s.ring.rate ∧
      (signsFollow s).ring.relayQueue = s.ring.relayQueue ∧ (signsFollow s).ring.runCount = s.ring.runCount ∧
      (signsFollow s).ring.relayed = s.ring.relayed ∧ (signsFollow s).ring.badCheck = s.ring.badCheck ∧
      (signsFollow s).ring.hopExpiry = s.ring.hopExpiry ∧ (signsFollow s).ring.relayFull = s.ring.relayFull ∧
      (signsFollow s).ring.ringSilent = s.ring.ringSilent ∧ (signsFollow s).ring.silenceTimer = s.ring.silenceTimer ∧
      (signsFollow s).ring.portB = s.ring.portB ∧ (signsFollow s).nodes = s.nodes ∧
      (signsFollow s).delivery.tagCounter = s.delivery.tagCounter ∧
      (signsFollow s).delivery.proxy = s.delivery.proxy ∧ (signsFollow s).delivery.noTake = s.delivery.noTake ∧
      (signsFollow s).air = s.air ∧ (signsFollow s).fans = s.fans ∧ (signsFollow s).guide.bays = s.guide.bays ∧
      (signsFollow s).guide.rowFree = s.guide.rowFree ∧ (signsFollow s).guide.levels = s.guide.levels ∧
      (signsFollow s).guide.clusterFault = s.guide.clusterFault ∧ (signsFollow s).light = s.light ∧
      (signsFollow s).faults = s.faults ∧ (signsFollow s).fire = s.fire ∧ (signsFollow s).mgmt = s.mgmt ∧
      (signsFollow s).tables = s.tables ∧ (signsFollow s).store = s.store := by
  simp only [signsFollow]
  repeat' split
  all_goals simp

/-- What `frameTaken` leaves as it is. -/
@[simp] theorem frameTaken_frame (bytes : List Byte) (framingError : Bool) (s : State) :
    (frameTaken bytes framingError s).pending = s.pending ∧ (frameTaken bytes framingError s).clock = s.clock ∧
      (frameTaken bytes framingError s).epoch = s.epoch ∧ (frameTaken bytes framingError s).phase = s.phase ∧
      (frameTaken bytes framingError s).ring.ownAddress = s.ring.ownAddress ∧
      (frameTaken bytes framingError s).ring.rate = s.ring.rate ∧
      (frameTaken bytes framingError s).ring.runCount = s.ring.runCount ∧
      (frameTaken bytes framingError s).ring.relayed = s.ring.relayed ∧
      (frameTaken bytes framingError s).ring.portB = s.ring.portB ∧
      (frameTaken bytes framingError s).delivery.tagCounter = s.delivery.tagCounter ∧
      (frameTaken bytes framingError s).air.evaluationTimer = s.air.evaluationTimer ∧
      (frameTaken bytes framingError s).light.stepTimer = s.light.stepTimer ∧
      (frameTaken bytes framingError s).faults.gasHigh = s.faults.gasHigh ∧
      (frameTaken bytes framingError s).faults.shortfall = s.faults.shortfall ∧
      (frameTaken bytes framingError s).faults.noticeNumber = s.faults.noticeNumber ∧
      (frameTaken bytes framingError s).fire = s.fire ∧
      (frameTaken bytes framingError s).mgmt.cursor = s.mgmt.cursor ∧
      (frameTaken bytes framingError s).mgmt.storeSender = s.mgmt.storeSender ∧
      (frameTaken bytes framingError s).mgmt.restartPending = s.mgmt.restartPending ∧
      (frameTaken bytes framingError s).tables = s.tables ∧ (frameTaken bytes framingError s).store = s.store := by
  simp only [frameTaken]
  repeat' split
  all_goals simp

/-- What `startSending` leaves as it is. -/
@[simp] theorem startSending_frame (bytes : List Byte) (relayed : Bool) (s : State) :
    (startSending bytes relayed s).pending = s.pending ∧ (startSending bytes relayed s).clock = s.clock ∧
      (startSending bytes relayed s).epoch = s.epoch ∧ (startSending bytes relayed s).draws = s.draws ∧
      (startSending bytes relayed s).phase = s.phase ∧
      (startSending bytes relayed s).ring.ownAddress = s.ring.ownAddress ∧
      (startSending bytes relayed s).ring.rate = s.ring.rate ∧
      (startSending bytes relayed s).ring.relayQueue = s.ring.relayQueue ∧
      (startSending bytes relayed s).ring.insertion = s.ring.insertion ∧
      (startSending bytes relayed s).ring.claims = s.ring.claims ∧
      (startSending bytes relayed s).ring.runCount = s.ring.runCount ∧
      (startSending bytes relayed s).ring.relayed = s.ring.relayed ∧
      (startSending bytes relayed s).ring.badCheck = s.ring.badCheck ∧
      (startSending bytes relayed s).ring.hopExpiry = s.ring.hopExpiry ∧
      (startSending bytes relayed s).ring.relayFull = s.ring.relayFull ∧
      (startSending bytes relayed s).ring.ringSilent = s.ring.ringSilent ∧
      (startSending bytes relayed s).ring.silenceTimer = s.ring.silenceTimer ∧
      (startSending bytes relayed s).ring.nextEntry = s.ring.nextEntry ∧
      (startSending bytes relayed s).nodes = s.nodes ∧ (startSending bytes relayed s).delivery = s.delivery ∧
      (startSending bytes relayed s).air = s.air ∧ (startSending bytes relayed s).fans = s.fans ∧
      (startSending bytes relayed s).guide = s.guide ∧ (startSending bytes relayed s).light = s.light ∧
      (startSending bytes relayed s).faults = s.faults ∧ (startSending bytes relayed s).fire = s.fire ∧
      (startSending bytes relayed s).mgmt = s.mgmt ∧ (startSending bytes relayed s).tables = s.tables ∧
      (startSending bytes relayed s).store = s.store := by
  simp [startSending]

/-- What `frameEnds` leaves as it is. -/
@[simp] theorem frameEnds_frame  (s : State) :
    (frameEnds s).pending = s.pending ∧ (frameEnds s).clock = s.clock ∧ (frameEnds s).epoch = s.epoch ∧
      (frameEnds s).draws = s.draws ∧ (frameEnds s).phase = s.phase ∧
      (frameEnds s).ring.ownAddress = s.ring.ownAddress ∧ (frameEnds s).ring.rate = s.ring.rate ∧
      (frameEnds s).ring.relayQueue = s.ring.relayQueue ∧ (frameEnds s).ring.insertion = s.ring.insertion ∧
      (frameEnds s).ring.claims = s.ring.claims ∧ (frameEnds s).ring.runCount = s.ring.runCount ∧
      (frameEnds s).ring.badCheck = s.ring.badCheck ∧ (frameEnds s).ring.hopExpiry = s.ring.hopExpiry ∧
      (frameEnds s).ring.relayFull = s.ring.relayFull ∧ (frameEnds s).ring.ringSilent = s.ring.ringSilent ∧
      (frameEnds s).ring.silenceTimer = s.ring.silenceTimer ∧ (frameEnds s).ring.nextEntry = s.ring.nextEntry ∧
      (frameEnds s).nodes = s.nodes ∧ (frameEnds s).delivery = s.delivery ∧ (frameEnds s).air = s.air ∧
      (frameEnds s).fans = s.fans ∧ (frameEnds s).guide = s.guide ∧ (frameEnds s).light = s.light ∧
      (frameEnds s).faults = s.faults ∧ (frameEnds s).fire = s.fire ∧ (frameEnds s).mgmt = s.mgmt ∧
      (frameEnds s).tables = s.tables ∧ (frameEnds s).store = s.store := by
  simp only [frameEnds]
  repeat' split
  all_goals simp

/-- What `tellOrigin` leaves as it is. -/
@[simp] theorem tellOrigin_frame (d : Draft) (tag : Nat) (s : State) :
    (tellOrigin d tag s).pending = s.pending ∧ (tellOrigin d tag s).clock = s.clock ∧
      (tellOrigin d tag s).epoch = s.epoch ∧ (tellOrigin d tag s).draws = s.draws ∧
      (tellOrigin d tag s).phase = s.phase ∧ (tellOrigin d tag s).ring = s.ring ∧
      (tellOrigin d tag s).nodes = s.nodes ∧ (tellOrigin d tag s).delivery.noTake = s.delivery.noTake ∧
      (tellOrigin d tag s).air = s.air ∧ (tellOrigin d tag s).fans = s.fans ∧ (tellOrigin d tag s).guide = s.guide ∧
      (tellOrigin d tag s).light = s.light ∧ (tellOrigin d tag s).faults.list = s.faults.list ∧
      (tellOrigin d tag s).faults.flags = s.faults.flags ∧ (tellOrigin d tag s).faults.alert = s.faults.alert ∧
      (tellOrigin d tag s).faults.gasHigh = s.faults.gasHigh ∧
      (tellOrigin d tag s).faults.shortfall = s.faults.shortfall ∧ (tellOrigin d tag s).fire = s.fire ∧
      (tellOrigin d tag s).mgmt = s.mgmt ∧ (tellOrigin d tag s).tables = s.tables ∧
      (tellOrigin d tag s).store = s.store := by
  simp only [tellOrigin]
  repeat' split
  all_goals simp

/-- What `startRelayed` leaves as it is. -/
@[simp] theorem startRelayed_frame (bytes : List Byte) (rest : List (List Byte)) (run : Nat) (s : State) :
    (startRelayed bytes rest run s).pending = s.pending ∧ (startRelayed bytes rest run s).clock = s.clock ∧
      (startRelayed bytes rest run s).epoch = s.epoch ∧ (startRelayed bytes rest run s).draws = s.draws ∧
      (startRelayed bytes rest run s).phase = s.phase ∧
      (startRelayed bytes rest run s).ring.ownAddress = s.ring.ownAddress ∧
      (startRelayed bytes rest run s).ring.rate = s.ring.rate ∧
      (startRelayed bytes rest run s).ring.insertion = s.ring.insertion ∧
      (startRelayed bytes rest run s).ring.claims = s.ring.claims ∧
      (startRelayed bytes rest run s).ring.relayed = s.ring.relayed ∧
      (startRelayed bytes rest run s).ring.badCheck = s.ring.badCheck ∧
      (startRelayed bytes rest run s).ring.hopExpiry = s.ring.hopExpiry ∧
      (startRelayed bytes rest run s).ring.relayFull = s.ring.relayFull ∧
      (startRelayed bytes rest run s).ring.ringSilent = s.ring.ringSilent ∧
      (startRelayed bytes rest run s).ring.silenceTimer = s.ring.silenceTimer ∧
      (startRelayed bytes rest run s).ring.nextEntry = s.ring.nextEntry ∧
      (startRelayed bytes rest run s).nodes = s.nodes ∧ (startRelayed bytes rest run s).delivery = s.delivery ∧
      (startRelayed bytes rest run s).air = s.air ∧ (startRelayed bytes rest run s).fans = s.fans ∧
      (startRelayed bytes rest run s).guide = s.guide ∧ (startRelayed bytes rest run s).light = s.light ∧
      (startRelayed bytes rest run s).faults = s.faults ∧ (startRelayed bytes rest run s).fire = s.fire ∧
      (startRelayed bytes rest run s).mgmt = s.mgmt ∧ (startRelayed bytes rest run s).tables = s.tables ∧
      (startRelayed bytes rest run s).store = s.store := by
  simp [startRelayed]

/-- What `startInserted` leaves as it is. -/
@[simp] theorem startInserted_frame (f : QFrame) (rest : List QFrame) (s : State) :
    (startInserted f rest s).pending = s.pending ∧ (startInserted f rest s).clock = s.clock ∧
      (startInserted f rest s).epoch = s.epoch ∧ (startInserted f rest s).draws = s.draws ∧
      (startInserted f rest s).phase = s.phase ∧ (startInserted f rest s).ring.ownAddress = s.ring.ownAddress ∧
      (startInserted f rest s).ring.rate = s.ring.rate ∧
      (startInserted f rest s).ring.relayQueue = s.ring.relayQueue ∧
      (startInserted f rest s).ring.relayed = s.ring.relayed ∧
      (startInserted f rest s).ring.badCheck = s.ring.badCheck ∧
      (startInserted f rest s).ring.hopExpiry = s.ring.hopExpiry ∧
      (startInserted f rest s).ring.relayFull = s.ring.relayFull ∧
      (startInserted f rest s).ring.ringSilent = s.ring.ringSilent ∧
      (startInserted f rest s).ring.silenceTimer = s.ring.silenceTimer ∧ (startInserted f rest s).nodes = s.nodes ∧
      (startInserted f rest s).delivery.noTake = s.delivery.noTake ∧ (startInserted f rest s).air = s.air ∧
      (startInserted f rest s).fans = s.fans ∧ (startInserted f rest s).guide = s.guide ∧
      (startInserted f rest s).light = s.light ∧ (startInserted f rest s).faults.list = s.faults.list ∧
      (startInserted f rest s).faults.flags = s.faults.flags ∧
      (startInserted f rest s).faults.alert = s.faults.alert ∧
      (startInserted f rest s).faults.gasHigh = s.faults.gasHigh ∧
      (startInserted f rest s).faults.shortfall = s.faults.shortfall ∧ (startInserted f rest s).fire = s.fire ∧
      (startInserted f rest s).mgmt.queue = s.mgmt.queue ∧ (startInserted f rest s).mgmt.cursor = s.mgmt.cursor ∧
      (startInserted f rest s).mgmt.storeSender = s.mgmt.storeSender ∧
      (startInserted f rest s).mgmt.proxySender = s.mgmt.proxySender ∧
      (startInserted f rest s).mgmt.restartPending = s.mgmt.restartPending ∧
      (startInserted f rest s).tables = s.tables ∧ (startInserted f rest s).store = s.store := by
  simp [startInserted]

/-- What `arbitrate` leaves as it is. -/
@[simp] theorem arbitrate_frame  (s : State) :
    (arbitrate s).pending = s.pending ∧ (arbitrate s).clock = s.clock ∧ (arbitrate s).epoch = s.epoch ∧
      (arbitrate s).draws = s.draws ∧ (arbitrate s).phase = s.phase ∧
      (arbitrate s).ring.ownAddress = s.ring.ownAddress ∧ (arbitrate s).ring.rate = s.ring.rate ∧
      (arbitrate s).ring.relayed = s.ring.relayed ∧ (arbitrate s).ring.badCheck = s.ring.badCheck ∧
      (arbitrate s).ring.hopExpiry = s.ring.hopExpiry ∧ (arbitrate s).ring.relayFull = s.ring.relayFull ∧
      (arbitrate s).ring.ringSilent = s.ring.ringSilent ∧ (arbitrate s).ring.silenceTimer = s.ring.silenceTimer ∧
      (arbitrate s).nodes = s.nodes ∧ (arbitrate s).delivery.noTake = s.delivery.noTake ∧ (arbitrate s).air = s.air ∧
      (arbitrate s).fans = s.fans ∧ (arbitrate s).guide = s.guide ∧ (arbitrate s).light = s.light ∧
      (arbitrate s).faults.list = s.faults.list ∧ (arbitrate s).faults.flags = s.faults.flags ∧
      (arbitrate s).faults.alert = s.faults.alert ∧ (arbitrate s).faults.gasHigh = s.faults.gasHigh ∧
      (arbitrate s).faults.shortfall = s.faults.shortfall ∧ (arbitrate s).fire = s.fire ∧
      (arbitrate s).mgmt.queue = s.mgmt.queue ∧ (arbitrate s).mgmt.cursor = s.mgmt.cursor ∧
      (arbitrate s).mgmt.storeSender = s.mgmt.storeSender ∧ (arbitrate s).mgmt.proxySender = s.mgmt.proxySender ∧
      (arbitrate s).mgmt.restartPending = s.mgmt.restartPending ∧ (arbitrate s).tables = s.tables ∧
      (arbitrate s).store = s.store := by
  simp only [arbitrate]
  repeat' split
  all_goals simp

/-- What `returnExpires` leaves as it is. -/
@[simp] theorem returnExpires_frame (a : Actuator) (s : State) :
    (returnExpires a s).pending = s.pending ∧ (returnExpires a s).clock = s.clock ∧
      (returnExpires a s).epoch = s.epoch ∧ (returnExpires a s).draws = s.draws ∧
      (returnExpires a s).phase = s.phase ∧ (returnExpires a s).ring.ownAddress = s.ring.ownAddress ∧
      (returnExpires a s).ring.rate = s.ring.rate ∧ (returnExpires a s).ring.relayQueue = s.ring.relayQueue ∧
      (returnExpires a s).ring.runCount = s.ring.runCount ∧ (returnExpires a s).ring.relayed = s.ring.relayed ∧
      (returnExpires a s).ring.badCheck = s.ring.badCheck ∧ (returnExpires a s).ring.hopExpiry = s.ring.hopExpiry ∧
      (returnExpires a s).ring.relayFull = s.ring.relayFull ∧
      (returnExpires a s).ring.ringSilent = s.ring.ringSilent ∧
      (returnExpires a s).ring.silenceTimer = s.ring.silenceTimer ∧ (returnExpires a s).ring.portB = s.ring.portB ∧
      (returnExpires a s).nodes = s.nodes ∧ (returnExpires a s).delivery.tagCounter = s.delivery.tagCounter ∧
      (returnExpires a s).air = s.air ∧ (returnExpires a s).guide.bays = s.guide.bays ∧
      (returnExpires a s).guide.rowFree = s.guide.rowFree ∧ (returnExpires a s).guide.levels = s.guide.levels ∧
      (returnExpires a s).guide.clusterFault = s.guide.clusterFault ∧
      (returnExpires a s).light.stepTimer = s.light.stepTimer ∧
      (returnExpires a s).faults.gasHigh = s.faults.gasHigh ∧
      (returnExpires a s).faults.shortfall = s.faults.shortfall ∧
      (returnExpires a s).faults.noticeNumber = s.faults.noticeNumber ∧ (returnExpires a s).fire = s.fire ∧
      (returnExpires a s).mgmt.queue = s.mgmt.queue ∧ (returnExpires a s).mgmt.cursor = s.mgmt.cursor ∧
      (returnExpires a s).mgmt.storeSender = s.mgmt.storeSender ∧
      (returnExpires a s).mgmt.proxySender = s.mgmt.proxySender ∧
      (returnExpires a s).mgmt.restartPending = s.mgmt.restartPending ∧ (returnExpires a s).tables = s.tables ∧
      (returnExpires a s).store = s.store := by
  simp only [returnExpires]
  repeat' split
  all_goals simp

/-- What `resendExpires` leaves as it is. -/
@[simp] theorem resendExpires_frame (a : Actuator) (s : State) :
    (resendExpires a s).pending = s.pending ∧ (resendExpires a s).clock = s.clock ∧
      (resendExpires a s).epoch = s.epoch ∧ (resendExpires a s).draws = s.draws ∧
      (resendExpires a s).phase = s.phase ∧ (resendExpires a s).ring.ownAddress = s.ring.ownAddress ∧
      (resendExpires a s).ring.rate = s.ring.rate ∧ (resendExpires a s).ring.relayQueue = s.ring.relayQueue ∧
      (resendExpires a s).ring.runCount = s.ring.runCount ∧ (resendExpires a s).ring.relayed = s.ring.relayed ∧
      (resendExpires a s).ring.badCheck = s.ring.badCheck ∧ (resendExpires a s).ring.hopExpiry = s.ring.hopExpiry ∧
      (resendExpires a s).ring.relayFull = s.ring.relayFull ∧
      (resendExpires a s).ring.ringSilent = s.ring.ringSilent ∧
      (resendExpires a s).ring.silenceTimer = s.ring.silenceTimer ∧ (resendExpires a s).ring.portB = s.ring.portB ∧
      (resendExpires a s).nodes = s.nodes ∧ (resendExpires a s).delivery.tagCounter = s.delivery.tagCounter ∧
      (resendExpires a s).delivery.proxy = s.delivery.proxy ∧
      (resendExpires a s).delivery.noTake = s.delivery.noTake ∧ (resendExpires a s).air = s.air ∧
      (resendExpires a s).fans = s.fans ∧ (resendExpires a s).guide = s.guide ∧ (resendExpires a s).light = s.light ∧
      (resendExpires a s).faults = s.faults ∧ (resendExpires a s).fire = s.fire ∧ (resendExpires a s).mgmt = s.mgmt ∧
      (resendExpires a s).tables = s.tables ∧ (resendExpires a s).store = s.store := by
  simp [resendExpires]

/-- What `evaluationExpires` leaves as it is. -/
@[simp] theorem evaluationExpires_frame  (s : State) :
    (evaluationExpires s).pending = s.pending ∧ (evaluationExpires s).clock = s.clock ∧
      (evaluationExpires s).epoch = s.epoch ∧ (evaluationExpires s).draws = s.draws ∧
      (evaluationExpires s).phase = s.phase ∧ (evaluationExpires s).ring.ownAddress = s.ring.ownAddress ∧
      (evaluationExpires s).ring.rate = s.ring.rate ∧ (evaluationExpires s).ring.relayQueue = s.ring.relayQueue ∧
      (evaluationExpires s).ring.runCount = s.ring.runCount ∧ (evaluationExpires s).ring.relayed = s.ring.relayed ∧
      (evaluationExpires s).ring.badCheck = s.ring.badCheck ∧
      (evaluationExpires s).ring.hopExpiry = s.ring.hopExpiry ∧
      (evaluationExpires s).ring.relayFull = s.ring.relayFull ∧
      (evaluationExpires s).ring.ringSilent = s.ring.ringSilent ∧
      (evaluationExpires s).ring.silenceTimer = s.ring.silenceTimer ∧
      (evaluationExpires s).ring.portB = s.ring.portB ∧ (evaluationExpires s).nodes = s.nodes ∧
      (evaluationExpires s).delivery.tagCounter = s.delivery.tagCounter ∧
      (evaluationExpires s).delivery.proxy = s.delivery.proxy ∧
      (evaluationExpires s).delivery.noTake = s.delivery.noTake ∧ (evaluationExpires s).air.sensors = s.air.sensors ∧
      (evaluationExpires s).guide.bays = s.guide.bays ∧ (evaluationExpires s).guide.rowFree = s.guide.rowFree ∧
      (evaluationExpires s).guide.clusterFault = s.guide.clusterFault ∧
      (evaluationExpires s).light.stepTimer = s.light.stepTimer ∧
      (evaluationExpires s).faults.noticeNumber = s.faults.noticeNumber ∧ (evaluationExpires s).fire = s.fire ∧
      (evaluationExpires s).mgmt = s.mgmt ∧ (evaluationExpires s).tables = s.tables ∧
      (evaluationExpires s).store = s.store := by
  simp [evaluationExpires]

/-- What `deglitchExpires` leaves as it is. -/
@[simp] theorem deglitchExpires_frame (i : Nat) (t : FanTest) (s : State) :
    (deglitchExpires i t s).pending = s.pending ∧ (deglitchExpires i t s).clock = s.clock ∧
      (deglitchExpires i t s).epoch = s.epoch ∧ (deglitchExpires i t s).draws = s.draws ∧
      (deglitchExpires i t s).phase = s.phase ∧ (deglitchExpires i t s).ring.ownAddress = s.ring.ownAddress ∧
      (deglitchExpires i t s).ring.rate = s.ring.rate ∧ (deglitchExpires i t s).ring.relayQueue = s.ring.relayQueue ∧
      (deglitchExpires i t s).ring.runCount = s.ring.runCount ∧
      (deglitchExpires i t s).ring.relayed = s.ring.relayed ∧
      (deglitchExpires i t s).ring.badCheck = s.ring.badCheck ∧
      (deglitchExpires i t s).ring.hopExpiry = s.ring.hopExpiry ∧
      (deglitchExpires i t s).ring.relayFull = s.ring.relayFull ∧
      (deglitchExpires i t s).ring.ringSilent = s.ring.ringSilent ∧
      (deglitchExpires i t s).ring.silenceTimer = s.ring.silenceTimer ∧
      (deglitchExpires i t s).ring.portB = s.ring.portB ∧ (deglitchExpires i t s).nodes = s.nodes ∧
      (deglitchExpires i t s).delivery.tagCounter = s.delivery.tagCounter ∧
      (deglitchExpires i t s).delivery.noTake = s.delivery.noTake ∧ (deglitchExpires i t s).air = s.air ∧
      (deglitchExpires i t s).guide.bays = s.guide.bays ∧ (deglitchExpires i t s).guide.rowFree = s.guide.rowFree ∧
      (deglitchExpires i t s).guide.levels = s.guide.levels ∧
      (deglitchExpires i t s).guide.clusterFault = s.guide.clusterFault ∧
      (deglitchExpires i t s).light.stepTimer = s.light.stepTimer ∧
      (deglitchExpires i t s).faults.gasHigh = s.faults.gasHigh ∧
      (deglitchExpires i t s).faults.shortfall = s.faults.shortfall ∧
      (deglitchExpires i t s).faults.noticeNumber = s.faults.noticeNumber ∧ (deglitchExpires i t s).fire = s.fire ∧
      (deglitchExpires i t s).mgmt.queue = s.mgmt.queue ∧ (deglitchExpires i t s).mgmt.cursor = s.mgmt.cursor ∧
      (deglitchExpires i t s).mgmt.storeSender = s.mgmt.storeSender ∧
      (deglitchExpires i t s).mgmt.proxySender = s.mgmt.proxySender ∧
      (deglitchExpires i t s).mgmt.restartPending = s.mgmt.restartPending ∧
      (deglitchExpires i t s).tables = s.tables ∧ (deglitchExpires i t s).store = s.store := by
  simp [deglitchExpires]

/-- What `settleExpires` leaves as it is. -/
@[simp] theorem settleExpires_frame (b : Nat) (s : State) :
    (settleExpires b s).pending = s.pending ∧ (settleExpires b s).clock = s.clock ∧
      (settleExpires b s).epoch = s.epoch ∧ (settleExpires b s).draws = s.draws ∧
      (settleExpires b s).phase = s.phase ∧ (settleExpires b s).ring.ownAddress = s.ring.ownAddress ∧
      (settleExpires b s).ring.rate = s.ring.rate ∧ (settleExpires b s).ring.relayQueue = s.ring.relayQueue ∧
      (settleExpires b s).ring.runCount = s.ring.runCount ∧ (settleExpires b s).ring.relayed = s.ring.relayed ∧
      (settleExpires b s).ring.badCheck = s.ring.badCheck ∧ (settleExpires b s).ring.hopExpiry = s.ring.hopExpiry ∧
      (settleExpires b s).ring.relayFull = s.ring.relayFull ∧
      (settleExpires b s).ring.ringSilent = s.ring.ringSilent ∧
      (settleExpires b s).ring.silenceTimer = s.ring.silenceTimer ∧ (settleExpires b s).ring.portB = s.ring.portB ∧
      (settleExpires b s).nodes = s.nodes ∧ (settleExpires b s).delivery.tagCounter = s.delivery.tagCounter ∧
      (settleExpires b s).delivery.proxy = s.delivery.proxy ∧
      (settleExpires b s).delivery.noTake = s.delivery.noTake ∧ (settleExpires b s).air.sensors = s.air.sensors ∧
      (settleExpires b s).air.evaluationTimer = s.air.evaluationTimer ∧ (settleExpires b s).fans = s.fans ∧
      (settleExpires b s).guide.clusterFault = s.guide.clusterFault ∧
      (settleExpires b s).light.stepTimer = s.light.stepTimer ∧ (settleExpires b s).faults = s.faults ∧
      (settleExpires b s).fire = s.fire ∧ (settleExpires b s).mgmt = s.mgmt ∧ (settleExpires b s).tables = s.tables ∧
      (settleExpires b s).store = s.store := by
  simp only [settleExpires]
  repeat' split
  all_goals simp

/-- What `intervalExpires` leaves as it is. -/
@[simp] theorem intervalExpires_frame (i : Nat) (s : State) :
    (intervalExpires i s).pending = s.pending ∧ (intervalExpires i s).clock = s.clock ∧
      (intervalExpires i s).epoch = s.epoch ∧ (intervalExpires i s).draws = s.draws ∧
      (intervalExpires i s).phase = s.phase ∧ (intervalExpires i s).ring.ownAddress = s.ring.ownAddress ∧
      (intervalExpires i s).ring.rate = s.ring.rate ∧ (intervalExpires i s).ring.relayQueue = s.ring.relayQueue ∧
      (intervalExpires i s).ring.runCount = s.ring.runCount ∧ (intervalExpires i s).ring.relayed = s.ring.relayed ∧
      (intervalExpires i s).ring.badCheck = s.ring.badCheck ∧
      (intervalExpires i s).ring.hopExpiry = s.ring.hopExpiry ∧
      (intervalExpires i s).ring.relayFull = s.ring.relayFull ∧
      (intervalExpires i s).ring.ringSilent = s.ring.ringSilent ∧
      (intervalExpires i s).ring.silenceTimer = s.ring.silenceTimer ∧
      (intervalExpires i s).ring.portB = s.ring.portB ∧ (intervalExpires i s).nodes = s.nodes ∧
      (intervalExpires i s).delivery.tagCounter = s.delivery.tagCounter ∧
      (intervalExpires i s).delivery.proxy = s.delivery.proxy ∧
      (intervalExpires i s).delivery.noTake = s.delivery.noTake ∧ (intervalExpires i s).air = s.air ∧
      (intervalExpires i s).fans = s.fans ∧ (intervalExpires i s).guide.bays = s.guide.bays ∧
      (intervalExpires i s).guide.rowFree = s.guide.rowFree ∧ (intervalExpires i s).guide.levels = s.guide.levels ∧
      (intervalExpires i s).guide.clusterFault = s.guide.clusterFault ∧ (intervalExpires i s).light = s.light ∧
      (intervalExpires i s).faults = s.faults ∧ (intervalExpires i s).fire = s.fire ∧
      (intervalExpires i s).mgmt = s.mgmt ∧ (intervalExpires i s).tables = s.tables ∧
      (intervalExpires i s).store = s.store := by
  simp only [intervalExpires]
  repeat' split
  all_goals simp

/-- What `stepGroups` leaves as it is. -/
@[simp] theorem stepGroups_frame  (s : State) :
    (forEach 96 stepGroup s).pending = s.pending ∧ (forEach 96 stepGroup s).clock = s.clock ∧
      (forEach 96 stepGroup s).epoch = s.epoch ∧ (forEach 96 stepGroup s).draws = s.draws ∧
      (forEach 96 stepGroup s).phase = s.phase ∧ (forEach 96 stepGroup s).ring.ownAddress = s.ring.ownAddress ∧
      (forEach 96 stepGroup s).ring.rate = s.ring.rate ∧
      (forEach 96 stepGroup s).ring.relayQueue = s.ring.relayQueue ∧
      (forEach 96 stepGroup s).ring.runCount = s.ring.runCount ∧
      (forEach 96 stepGroup s).ring.relayed = s.ring.relayed ∧
      (forEach 96 stepGroup s).ring.badCheck = s.ring.badCheck ∧
      (forEach 96 stepGroup s).ring.hopExpiry = s.ring.hopExpiry ∧
      (forEach 96 stepGroup s).ring.relayFull = s.ring.relayFull ∧
      (forEach 96 stepGroup s).ring.ringSilent = s.ring.ringSilent ∧
      (forEach 96 stepGroup s).ring.silenceTimer = s.ring.silenceTimer ∧
      (forEach 96 stepGroup s).ring.portB = s.ring.portB ∧ (forEach 96 stepGroup s).nodes = s.nodes ∧
      (forEach 96 stepGroup s).delivery.tagCounter = s.delivery.tagCounter ∧
      (forEach 96 stepGroup s).delivery.proxy = s.delivery.proxy ∧
      (forEach 96 stepGroup s).delivery.noTake = s.delivery.noTake ∧ (forEach 96 stepGroup s).air = s.air ∧
      (forEach 96 stepGroup s).fans = s.fans ∧ (forEach 96 stepGroup s).guide = s.guide ∧
      (forEach 96 stepGroup s).light.stepTimer = s.light.stepTimer ∧ (forEach 96 stepGroup s).faults = s.faults ∧
      (forEach 96 stepGroup s).fire = s.fire ∧ (forEach 96 stepGroup s).mgmt = s.mgmt ∧
      (forEach 96 stepGroup s).tables = s.tables ∧ (forEach 96 stepGroup s).store = s.store := by
  refine forEach_frame (R := fun a b =>
    b.pending = a.pending ∧ b.clock = a.clock ∧ b.epoch = a.epoch ∧ b.draws = a.draws ∧ b.phase = a.phase ∧
    b.ring.ownAddress = a.ring.ownAddress ∧ b.ring.rate = a.ring.rate ∧ b.ring.relayQueue = a.ring.relayQueue ∧
    b.ring.runCount = a.ring.runCount ∧ b.ring.relayed = a.ring.relayed ∧ b.ring.badCheck = a.ring.badCheck ∧
    b.ring.hopExpiry = a.ring.hopExpiry ∧ b.ring.relayFull = a.ring.relayFull ∧
    b.ring.ringSilent = a.ring.ringSilent ∧ b.ring.silenceTimer = a.ring.silenceTimer ∧
    b.ring.portB = a.ring.portB ∧ b.nodes = a.nodes ∧ b.delivery.tagCounter = a.delivery.tagCounter ∧
    b.delivery.proxy = a.delivery.proxy ∧ b.delivery.noTake = a.delivery.noTake ∧ b.air = a.air ∧ b.fans = a.fans ∧
    b.guide = a.guide ∧ b.light.stepTimer = a.light.stepTimer ∧ b.faults = a.faults ∧ b.fire = a.fire ∧
    b.mgmt = a.mgmt ∧ b.tables = a.tables ∧ b.store = a.store) ?_ ?_ ?_ _ _
  · intro t; simp
  · intro a b c h1 h2; simp_all
  · intro i t; simp

/-- What `lightSteps` leaves as it is. -/
@[simp] theorem lightSteps_frame  (s : State) :
    (lightSteps s).pending = s.pending ∧ (lightSteps s).clock = s.clock ∧ (lightSteps s).epoch = s.epoch ∧
      (lightSteps s).draws = s.draws ∧ (lightSteps s).phase = s.phase ∧
      (lightSteps s).ring.ownAddress = s.ring.ownAddress ∧ (lightSteps s).ring.rate = s.ring.rate ∧
      (lightSteps s).ring.relayQueue = s.ring.relayQueue ∧ (lightSteps s).ring.runCount = s.ring.runCount ∧
      (lightSteps s).ring.relayed = s.ring.relayed ∧ (lightSteps s).ring.badCheck = s.ring.badCheck ∧
      (lightSteps s).ring.hopExpiry = s.ring.hopExpiry ∧ (lightSteps s).ring.relayFull = s.ring.relayFull ∧
      (lightSteps s).ring.ringSilent = s.ring.ringSilent ∧ (lightSteps s).ring.silenceTimer = s.ring.silenceTimer ∧
      (lightSteps s).ring.portB = s.ring.portB ∧ (lightSteps s).nodes = s.nodes ∧
      (lightSteps s).delivery.tagCounter = s.delivery.tagCounter ∧ (lightSteps s).delivery.proxy = s.delivery.proxy ∧
      (lightSteps s).delivery.noTake = s.delivery.noTake ∧ (lightSteps s).air = s.air ∧
      (lightSteps s).fans = s.fans ∧ (lightSteps s).guide = s.guide ∧ (lightSteps s).faults = s.faults ∧
      (lightSteps s).fire = s.fire ∧ (lightSteps s).mgmt = s.mgmt ∧ (lightSteps s).tables = s.tables ∧
      (lightSteps s).store = s.store := by
  simp [lightSteps]

/-- What `lampExpires` leaves as it is. -/
@[simp] theorem lampExpires_frame (i : Nat) (s : State) :
    (lampExpires i s).pending = s.pending ∧ (lampExpires i s).clock = s.clock ∧ (lampExpires i s).epoch = s.epoch ∧
      (lampExpires i s).draws = s.draws ∧ (lampExpires i s).phase = s.phase ∧
      (lampExpires i s).ring.ownAddress = s.ring.ownAddress ∧ (lampExpires i s).ring.rate = s.ring.rate ∧
      (lampExpires i s).ring.relayQueue = s.ring.relayQueue ∧ (lampExpires i s).ring.runCount = s.ring.runCount ∧
      (lampExpires i s).ring.relayed = s.ring.relayed ∧ (lampExpires i s).ring.badCheck = s.ring.badCheck ∧
      (lampExpires i s).ring.hopExpiry = s.ring.hopExpiry ∧ (lampExpires i s).ring.relayFull = s.ring.relayFull ∧
      (lampExpires i s).ring.ringSilent = s.ring.ringSilent ∧
      (lampExpires i s).ring.silenceTimer = s.ring.silenceTimer ∧ (lampExpires i s).ring.portB = s.ring.portB ∧
      (lampExpires i s).nodes = s.nodes ∧ (lampExpires i s).delivery.tagCounter = s.delivery.tagCounter ∧
      (lampExpires i s).delivery.noTake = s.delivery.noTake ∧ (lampExpires i s).air = s.air ∧
      (lampExpires i s).guide.bays = s.guide.bays ∧ (lampExpires i s).guide.rowFree = s.guide.rowFree ∧
      (lampExpires i s).guide.levels = s.guide.levels ∧ (lampExpires i s).guide.clusterFault = s.guide.clusterFault ∧
      (lampExpires i s).light.stepTimer = s.light.stepTimer ∧ (lampExpires i s).faults.gasHigh = s.faults.gasHigh ∧
      (lampExpires i s).faults.shortfall = s.faults.shortfall ∧
      (lampExpires i s).faults.noticeNumber = s.faults.noticeNumber ∧ (lampExpires i s).fire = s.fire ∧
      (lampExpires i s).mgmt.queue = s.mgmt.queue ∧ (lampExpires i s).mgmt.cursor = s.mgmt.cursor ∧
      (lampExpires i s).mgmt.storeSender = s.mgmt.storeSender ∧
      (lampExpires i s).mgmt.proxySender = s.mgmt.proxySender ∧
      (lampExpires i s).mgmt.restartPending = s.mgmt.restartPending ∧ (lampExpires i s).tables = s.tables ∧
      (lampExpires i s).store = s.store := by
  simp [lampExpires]

/-- What `fireInRises` leaves as it is. -/
@[simp] theorem fireInRises_frame  (s : State) :
    (fireInRises s).pending = s.pending ∧ (fireInRises s).clock = s.clock ∧ (fireInRises s).epoch = s.epoch ∧
      (fireInRises s).phase = s.phase ∧ (fireInRises s).ring.ownAddress = s.ring.ownAddress ∧
      (fireInRises s).ring.rate = s.ring.rate ∧ (fireInRises s).ring.relayQueue = s.ring.relayQueue ∧
      (fireInRises s).ring.runCount = s.ring.runCount ∧ (fireInRises s).ring.relayed = s.ring.relayed ∧
      (fireInRises s).ring.badCheck = s.ring.badCheck ∧ (fireInRises s).ring.hopExpiry = s.ring.hopExpiry ∧
      (fireInRises s).ring.relayFull = s.ring.relayFull ∧ (fireInRises s).ring.ringSilent = s.ring.ringSilent ∧
      (fireInRises s).ring.silenceTimer = s.ring.silenceTimer ∧ (fireInRises s).ring.portB = s.ring.portB ∧
      (fireInRises s).nodes = s.nodes ∧ (fireInRises s).delivery.tagCounter = s.delivery.tagCounter ∧
      (fireInRises s).delivery.noTake = s.delivery.noTake ∧ (fireInRises s).air = s.air ∧
      (fireInRises s).guide.bays = s.guide.bays ∧ (fireInRises s).guide.rowFree = s.guide.rowFree ∧
      (fireInRises s).guide.clusterFault = s.guide.clusterFault ∧
      (fireInRises s).light.stepTimer = s.light.stepTimer ∧ (fireInRises s).faults.gasHigh = s.faults.gasHigh ∧
      (fireInRises s).faults.shortfall = s.faults.shortfall ∧
      (fireInRises s).faults.noticeNumber = s.faults.noticeNumber ∧ (fireInRises s).fire.plan = s.fire.plan ∧
      (fireInRises s).fire.planLock = s.fire.planLock ∧ (fireInRises s).fire.keysw = s.fire.keysw ∧
      (fireInRises s).mgmt.queue = s.mgmt.queue ∧ (fireInRises s).mgmt.cursor = s.mgmt.cursor ∧
      (fireInRises s).mgmt.storeSender = s.mgmt.storeSender ∧ (fireInRises s).mgmt.proxySender = s.mgmt.proxySender ∧
      (fireInRises s).mgmt.restartPending = s.mgmt.restartPending ∧ (fireInRises s).tables = s.tables ∧
      (fireInRises s).store = s.store := by
  simp only [fireInRises]
  repeat' split
  all_goals simp

/-- What `resetHeld` leaves as it is. -/
@[simp] theorem resetHeld_frame  (s : State) :
    (resetHeld s).pending = s.pending ∧ (resetHeld s).clock = s.clock ∧ (resetHeld s).epoch = s.epoch ∧
      (resetHeld s).draws = s.draws ∧ (resetHeld s).ring.ownAddress = s.ring.ownAddress ∧
      (resetHeld s).ring.rate = s.ring.rate ∧ (resetHeld s).ring.relayQueue = s.ring.relayQueue ∧
      (resetHeld s).ring.insertion = s.ring.insertion ∧ (resetHeld s).ring.claims = s.ring.claims ∧
      (resetHeld s).ring.runCount = s.ring.runCount ∧ (resetHeld s).ring.relayed = s.ring.relayed ∧
      (resetHeld s).ring.badCheck = s.ring.badCheck ∧ (resetHeld s).ring.hopExpiry = s.ring.hopExpiry ∧
      (resetHeld s).ring.relayFull = s.ring.relayFull ∧ (resetHeld s).ring.ringSilent = s.ring.ringSilent ∧
      (resetHeld s).ring.silenceTimer = s.ring.silenceTimer ∧ (resetHeld s).ring.nextEntry = s.ring.nextEntry ∧
      (resetHeld s).nodes = s.nodes ∧ (resetHeld s).delivery = s.delivery ∧ (resetHeld s).air = s.air ∧
      (resetHeld s).fans = s.fans ∧ (resetHeld s).guide = s.guide ∧ (resetHeld s).light = s.light ∧
      (resetHeld s).faults.list = s.faults.list ∧ (resetHeld s).faults.flags = s.faults.flags ∧
      (resetHeld s).faults.gasHigh = s.faults.gasHigh ∧ (resetHeld s).faults.shortfall = s.faults.shortfall ∧
      (resetHeld s).faults.risen = s.faults.risen ∧ (resetHeld s).faults.notice = s.faults.notice ∧
      (resetHeld s).faults.noticeNumber = s.faults.noticeNumber ∧ (resetHeld s).fire = s.fire ∧
      (resetHeld s).mgmt = s.mgmt ∧ (resetHeld s).tables = s.tables := by
  simp [resetHeld]

/-- What `judgeKept` leaves as it is. -/
@[simp] theorem judgeKept_frame  (s : State) :
    (judgeKept s).pending = s.pending ∧ (judgeKept s).clock = s.clock ∧ (judgeKept s).epoch = s.epoch ∧
      (judgeKept s).draws = s.draws ∧ (judgeKept s).phase = s.phase ∧ (judgeKept s).ring = s.ring ∧
      (judgeKept s).nodes = s.nodes ∧ (judgeKept s).delivery = s.delivery ∧ (judgeKept s).air = s.air ∧
      (judgeKept s).guide.bays = s.guide.bays ∧ (judgeKept s).guide.rowFree = s.guide.rowFree ∧
      (judgeKept s).guide.levels = s.guide.levels ∧ (judgeKept s).guide.clusterFault = s.guide.clusterFault ∧
      (judgeKept s).light.stepTimer = s.light.stepTimer ∧ (judgeKept s).faults = s.faults ∧
      (judgeKept s).fire = s.fire ∧ (judgeKept s).mgmt = s.mgmt ∧ (judgeKept s).tables = s.tables ∧
      (judgeKept s).store = s.store := by
  simp [judgeKept]

/-- What `loaded` leaves as it is. -/
@[simp] theorem loaded_frame (afterRestart : Bool) (s : State) :
    (loaded afterRestart s).pending = s.pending ∧ (loaded afterRestart s).clock = s.clock ∧
      (loaded afterRestart s).epoch = s.epoch ∧ (loaded afterRestart s).draws = s.draws ∧
      (loaded afterRestart s).ring = s.ring ∧ (loaded afterRestart s).delivery = s.delivery ∧
      (loaded afterRestart s).air.sensors = s.air.sensors ∧ (loaded afterRestart s).air.zones = s.air.zones ∧
      (loaded afterRestart s).guide.bays = s.guide.bays ∧ (loaded afterRestart s).guide.rowFree = s.guide.rowFree ∧
      (loaded afterRestart s).guide.levels = s.guide.levels ∧
      (loaded afterRestart s).guide.clusterFault = s.guide.clusterFault ∧ (loaded afterRestart s).faults = s.faults ∧
      (loaded afterRestart s).fire.startTimers = s.fire.startTimers ∧
      (loaded afterRestart s).fire.fireIn = s.fire.fireIn ∧ (loaded afterRestart s).fire.keysw = s.fire.keysw ∧
      (loaded afterRestart s).mgmt = s.mgmt ∧ (loaded afterRestart s).store = s.store := by
  simp only [loaded]
  repeat' split
  all_goals simp

/-- What `startupFlags` leaves as it is. -/
@[simp] theorem startupFlags_frame (bad : Bool) (s : State) :
    (startupFlags bad s).pending = s.pending ∧ (startupFlags bad s).clock = s.clock ∧
      (startupFlags bad s).epoch = s.epoch ∧ (startupFlags bad s).draws = s.draws ∧
      (startupFlags bad s).phase = s.phase ∧ (startupFlags bad s).ring.ownAddress = s.ring.ownAddress ∧
      (startupFlags bad s).ring.rate = s.ring.rate ∧ (startupFlags bad s).ring.relayQueue = s.ring.relayQueue ∧
      (startupFlags bad s).ring.runCount = s.ring.runCount ∧ (startupFlags bad s).ring.relayed = s.ring.relayed ∧
      (startupFlags bad s).ring.badCheck = s.ring.badCheck ∧ (startupFlags bad s).ring.hopExpiry = s.ring.hopExpiry ∧
      (startupFlags bad s).ring.relayFull = s.ring.relayFull ∧
      (startupFlags bad s).ring.ringSilent = s.ring.ringSilent ∧
      (startupFlags bad s).ring.silenceTimer = s.ring.silenceTimer ∧ (startupFlags bad s).ring.portB = s.ring.portB ∧
      (startupFlags bad s).nodes = s.nodes ∧ (startupFlags bad s).delivery = s.delivery ∧
      (startupFlags bad s).air = s.air ∧ (startupFlags bad s).fans = s.fans ∧ (startupFlags bad s).guide = s.guide ∧
      (startupFlags bad s).light = s.light ∧ (startupFlags bad s).faults.list = s.faults.list ∧
      (startupFlags bad s).faults.gasHigh = s.faults.gasHigh ∧
      (startupFlags bad s).faults.shortfall = s.faults.shortfall ∧
      (startupFlags bad s).faults.noticeNumber = s.faults.noticeNumber ∧ (startupFlags bad s).fire = s.fire ∧
      (startupFlags bad s).mgmt = s.mgmt ∧ (startupFlags bad s).tables = s.tables ∧
      (startupFlags bad s).store = s.store := by
  simp only [startupFlags]
  repeat' split
  all_goals simp

/-- What `startupStops` leaves as it is. -/
@[simp] theorem startupStops_frame  (s : State) :
    (startupStops s).pending = s.pending ∧ (startupStops s).clock = s.clock ∧ (startupStops s).epoch = s.epoch ∧
      (startupStops s).draws = s.draws ∧ (startupStops s).phase = s.phase ∧
      (startupStops s).ring.ownAddress = s.ring.ownAddress ∧ (startupStops s).ring.rate = s.ring.rate ∧
      (startupStops s).ring.relayQueue = s.ring.relayQueue ∧ (startupStops s).ring.runCount = s.ring.runCount ∧
      (startupStops s).ring.relayed = s.ring.relayed ∧ (startupStops s).ring.badCheck = s.ring.badCheck ∧
      (startupStops s).ring.hopExpiry = s.ring.hopExpiry ∧ (startupStops s).ring.relayFull = s.ring.relayFull ∧
      (startupStops s).ring.ringSilent = s.ring.ringSilent ∧
      (startupStops s).ring.silenceTimer = s.ring.silenceTimer ∧ (startupStops s).ring.portB = s.ring.portB ∧
      (startupStops s).nodes = s.nodes ∧ (startupStops s).delivery.tagCounter = s.delivery.tagCounter ∧
      (startupStops s).delivery.proxy = s.delivery.proxy ∧ (startupStops s).delivery.noTake = s.delivery.noTake ∧
      (startupStops s).air = s.air ∧ (startupStops s).guide = s.guide ∧ (startupStops s).light = s.light ∧
      (startupStops s).faults.flags = s.faults.flags ∧ (startupStops s).faults.alert = s.faults.alert ∧
      (startupStops s).faults.gasHigh = s.faults.gasHigh ∧ (startupStops s).faults.shortfall = s.faults.shortfall ∧
      (startupStops s).faults.risen = s.faults.risen ∧ (startupStops s).faults.notice = s.faults.notice ∧
      (startupStops s).faults.noticeNumber = s.faults.noticeNumber ∧ (startupStops s).fire = s.fire ∧
      (startupStops s).mgmt = s.mgmt ∧ (startupStops s).tables = s.tables ∧ (startupStops s).store = s.store := by
  unfold startupStops
  refine forEach_frame (R := fun a b =>
    b.pending = a.pending ∧ b.clock = a.clock ∧ b.epoch = a.epoch ∧ b.draws = a.draws ∧ b.phase = a.phase ∧
    b.ring.ownAddress = a.ring.ownAddress ∧ b.ring.rate = a.ring.rate ∧ b.ring.relayQueue = a.ring.relayQueue ∧
    b.ring.runCount = a.ring.runCount ∧ b.ring.relayed = a.ring.relayed ∧ b.ring.badCheck = a.ring.badCheck ∧
    b.ring.hopExpiry = a.ring.hopExpiry ∧ b.ring.relayFull = a.ring.relayFull ∧
    b.ring.ringSilent = a.ring.ringSilent ∧ b.ring.silenceTimer = a.ring.silenceTimer ∧
    b.ring.portB = a.ring.portB ∧ b.nodes = a.nodes ∧ b.delivery.tagCounter = a.delivery.tagCounter ∧
    b.delivery.proxy = a.delivery.proxy ∧ b.delivery.noTake = a.delivery.noTake ∧ b.air = a.air ∧
    b.guide = a.guide ∧ b.light = a.light ∧ b.faults.flags = a.faults.flags ∧ b.faults.alert = a.faults.alert ∧
    b.faults.gasHigh = a.faults.gasHigh ∧ b.faults.shortfall = a.faults.shortfall ∧
    b.faults.risen = a.faults.risen ∧ b.faults.notice = a.faults.notice ∧
    b.faults.noticeNumber = a.faults.noticeNumber ∧ b.fire = a.fire ∧ b.mgmt = a.mgmt ∧ b.tables = a.tables ∧
    b.store = a.store) ?_ ?_ ?_ _ _
  · intro t; simp
  · intro a b c h1 h2; simp_all
  · intro i t; split <;> simp

/-- What `startupOrder` leaves as it is. -/
@[simp] theorem startupOrder_frame (bad : Bool) (s : State) :

      (inAnyOrder [fun t => refreshSigns (if t.fire.latch then enterFire t else t), startupFlags bad, startupStops] s).pending = s.pending ∧
      (inAnyOrder [fun t => refreshSigns (if t.fire.latch then enterFire t else t), startupFlags bad, startupStops] s).clock = s.clock ∧
      (inAnyOrder [fun t => refreshSigns (if t.fire.latch then enterFire t else t), startupFlags bad, startupStops] s).epoch = s.epoch ∧
      (inAnyOrder [fun t => refreshSigns (if t.fire.latch then enterFire t else t), startupFlags bad, startupStops] s).phase = s.phase ∧
      (inAnyOrder [fun t => refreshSigns (if t.fire.latch then enterFire t else t), startupFlags bad, startupStops] s).ring.ownAddress = s.ring.ownAddress ∧
      (inAnyOrder [fun t => refreshSigns (if t.fire.latch then enterFire t else t), startupFlags bad, startupStops] s).ring.rate = s.ring.rate ∧
      (inAnyOrder [fun t => refreshSigns (if t.fire.latch then enterFire t else t), startupFlags bad, startupStops] s).ring.relayQueue = s.ring.relayQueue ∧
      (inAnyOrder [fun t => refreshSigns (if t.fire.latch then enterFire t else t), startupFlags bad, startupStops] s).ring.runCount = s.ring.runCount ∧
      (inAnyOrder [fun t => refreshSigns (if t.fire.latch then enterFire t else t), startupFlags bad, startupStops] s).ring.relayed = s.ring.relayed ∧
      (inAnyOrder [fun t => refreshSigns (if t.fire.latch then enterFire t else t), startupFlags bad, startupStops] s).ring.badCheck = s.ring.badCheck ∧
      (inAnyOrder [fun t => refreshSigns (if t.fire.latch then enterFire t else t), startupFlags bad, startupStops] s).ring.hopExpiry = s.ring.hopExpiry ∧
      (inAnyOrder [fun t => refreshSigns (if t.fire.latch then enterFire t else t), startupFlags bad, startupStops] s).ring.relayFull = s.ring.relayFull ∧
      (inAnyOrder [fun t => refreshSigns (if t.fire.latch then enterFire t else t), startupFlags bad, startupStops] s).ring.ringSilent = s.ring.ringSilent ∧
      (inAnyOrder [fun t => refreshSigns (if t.fire.latch then enterFire t else t), startupFlags bad, startupStops] s).ring.silenceTimer = s.ring.silenceTimer ∧
      (inAnyOrder [fun t => refreshSigns (if t.fire.latch then enterFire t else t), startupFlags bad, startupStops] s).ring.portB = s.ring.portB ∧
      (inAnyOrder [fun t => refreshSigns (if t.fire.latch then enterFire t else t), startupFlags bad, startupStops] s).nodes = s.nodes ∧
      (inAnyOrder [fun t => refreshSigns (if t.fire.latch then enterFire t else t), startupFlags bad, startupStops] s).delivery.tagCounter = s.delivery.tagCounter ∧
      (inAnyOrder [fun t => refreshSigns (if t.fire.latch then enterFire t else t), startupFlags bad, startupStops] s).delivery.noTake = s.delivery.noTake ∧
      (inAnyOrder [fun t => refreshSigns (if t.fire.latch then enterFire t else t), startupFlags bad, startupStops] s).air = s.air ∧
      (inAnyOrder [fun t => refreshSigns (if t.fire.latch then enterFire t else t), startupFlags bad, startupStops] s).guide.bays = s.guide.bays ∧
      (inAnyOrder [fun t => refreshSigns (if t.fire.latch then enterFire t else t), startupFlags bad, startupStops] s).guide.rowFree = s.guide.rowFree ∧
      (inAnyOrder [fun t => refreshSigns (if t.fire.latch then enterFire t else t), startupFlags bad, startupStops] s).guide.clusterFault = s.guide.clusterFault ∧
      (inAnyOrder [fun t => refreshSigns (if t.fire.latch then enterFire t else t), startupFlags bad, startupStops] s).light.stepTimer = s.light.stepTimer ∧
      (inAnyOrder [fun t => refreshSigns (if t.fire.latch then enterFire t else t), startupFlags bad, startupStops] s).faults.gasHigh = s.faults.gasHigh ∧
      (inAnyOrder [fun t => refreshSigns (if t.fire.latch then enterFire t else t), startupFlags bad, startupStops] s).faults.shortfall = s.faults.shortfall ∧
      (inAnyOrder [fun t => refreshSigns (if t.fire.latch then enterFire t else t), startupFlags bad, startupStops] s).faults.noticeNumber = s.faults.noticeNumber ∧
      (inAnyOrder [fun t => refreshSigns (if t.fire.latch then enterFire t else t), startupFlags bad, startupStops] s).fire.plan = s.fire.plan ∧
      (inAnyOrder [fun t => refreshSigns (if t.fire.latch then enterFire t else t), startupFlags bad, startupStops] s).fire.planLock = s.fire.planLock ∧
      (inAnyOrder [fun t => refreshSigns (if t.fire.latch then enterFire t else t), startupFlags bad, startupStops] s).fire.fireIn = s.fire.fireIn ∧
      (inAnyOrder [fun t => refreshSigns (if t.fire.latch then enterFire t else t), startupFlags bad, startupStops] s).fire.fireHeld = s.fire.fireHeld ∧
      (inAnyOrder [fun t => refreshSigns (if t.fire.latch then enterFire t else t), startupFlags bad, startupStops] s).fire.keysw = s.fire.keysw ∧
      (inAnyOrder [fun t => refreshSigns (if t.fire.latch then enterFire t else t), startupFlags bad, startupStops] s).mgmt.queue = s.mgmt.queue ∧
      (inAnyOrder [fun t => refreshSigns (if t.fire.latch then enterFire t else t), startupFlags bad, startupStops] s).mgmt.cursor = s.mgmt.cursor ∧
      (inAnyOrder [fun t => refreshSigns (if t.fire.latch then enterFire t else t), startupFlags bad, startupStops] s).mgmt.storeSender = s.mgmt.storeSender ∧
      (inAnyOrder [fun t => refreshSigns (if t.fire.latch then enterFire t else t), startupFlags bad, startupStops] s).mgmt.proxySender = s.mgmt.proxySender ∧
      (inAnyOrder [fun t => refreshSigns (if t.fire.latch then enterFire t else t), startupFlags bad, startupStops] s).mgmt.restartPending = s.mgmt.restartPending ∧
      (inAnyOrder [fun t => refreshSigns (if t.fire.latch then enterFire t else t), startupFlags bad, startupStops] s).tables = s.tables ∧
      (inAnyOrder [fun t => refreshSigns (if t.fire.latch then enterFire t else t), startupFlags bad, startupStops] s).store = s.store := by
  refine inAnyOrder_frame (R := fun a b =>
    b.pending = a.pending ∧ b.clock = a.clock ∧ b.epoch = a.epoch ∧ b.phase = a.phase ∧
    b.ring.ownAddress = a.ring.ownAddress ∧ b.ring.rate = a.ring.rate ∧ b.ring.relayQueue = a.ring.relayQueue ∧
    b.ring.runCount = a.ring.runCount ∧ b.ring.relayed = a.ring.relayed ∧ b.ring.badCheck = a.ring.badCheck ∧
    b.ring.hopExpiry = a.ring.hopExpiry ∧ b.ring.relayFull = a.ring.relayFull ∧
    b.ring.ringSilent = a.ring.ringSilent ∧ b.ring.silenceTimer = a.ring.silenceTimer ∧
    b.ring.portB = a.ring.portB ∧ b.nodes = a.nodes ∧ b.delivery.tagCounter = a.delivery.tagCounter ∧
    b.delivery.noTake = a.delivery.noTake ∧ b.air = a.air ∧ b.guide.bays = a.guide.bays ∧
    b.guide.rowFree = a.guide.rowFree ∧ b.guide.clusterFault = a.guide.clusterFault ∧
    b.light.stepTimer = a.light.stepTimer ∧ b.faults.gasHigh = a.faults.gasHigh ∧
    b.faults.shortfall = a.faults.shortfall ∧ b.faults.noticeNumber = a.faults.noticeNumber ∧
    b.fire.plan = a.fire.plan ∧ b.fire.planLock = a.fire.planLock ∧ b.fire.fireIn = a.fire.fireIn ∧
    b.fire.fireHeld = a.fire.fireHeld ∧ b.fire.keysw = a.fire.keysw ∧ b.mgmt.queue = a.mgmt.queue ∧
    b.mgmt.cursor = a.mgmt.cursor ∧ b.mgmt.storeSender = a.mgmt.storeSender ∧
    b.mgmt.proxySender = a.mgmt.proxySender ∧ b.mgmt.restartPending = a.mgmt.restartPending ∧ b.tables = a.tables ∧
    b.store = a.store) ?_ ?_ ?_ ?_ s
  · intro t; simp
  · intro a b c h1 h2; simp_all
  · intro t n; simp
  · intro f hf t
    simp only [List.mem_cons, List.not_mem_nil, or_false] at hf
    rcases hf with rfl | rfl | rfl
    · dsimp only; split <;> simp
    · simp
    · simp

/-- What `loadingCompletes` leaves as it is. -/
@[simp] theorem loadingCompletes_frame  (s : State) :
    (loadingCompletes s).pending = s.pending ∧ (loadingCompletes s).clock = s.clock ∧
      (loadingCompletes s).epoch = s.epoch ∧ (loadingCompletes s).ring.ownAddress = s.ring.ownAddress ∧
      (loadingCompletes s).ring.rate = s.ring.rate ∧ (loadingCompletes s).ring.relayQueue = s.ring.relayQueue ∧
      (loadingCompletes s).ring.runCount = s.ring.runCount ∧ (loadingCompletes s).ring.relayed = s.ring.relayed ∧
      (loadingCompletes s).ring.badCheck = s.ring.badCheck ∧ (loadingCompletes s).ring.hopExpiry = s.ring.hopExpiry ∧
      (loadingCompletes s).ring.relayFull = s.ring.relayFull ∧
      (loadingCompletes s).ring.ringSilent = s.ring.ringSilent ∧
      (loadingCompletes s).ring.silenceTimer = s.ring.silenceTimer ∧ (loadingCompletes s).ring.portB = s.ring.portB ∧
      (loadingCompletes s).delivery.tagCounter = s.delivery.tagCounter ∧
      (loadingCompletes s).delivery.noTake = s.delivery.noTake ∧ (loadingCompletes s).air.sensors = s.air.sensors ∧
      (loadingCompletes s).air.zones = s.air.zones ∧ (loadingCompletes s).guide.bays = s.guide.bays ∧
      (loadingCompletes s).guide.rowFree = s.guide.rowFree ∧
      (loadingCompletes s).guide.clusterFault = s.guide.clusterFault ∧
      (loadingCompletes s).faults.gasHigh = s.faults.gasHigh ∧
      (loadingCompletes s).faults.shortfall = s.faults.shortfall ∧
      (loadingCompletes s).faults.noticeNumber = s.faults.noticeNumber ∧
      (loadingCompletes s).fire.fireIn = s.fire.fireIn ∧ (loadingCompletes s).fire.keysw = s.fire.keysw ∧
      (loadingCompletes s).mgmt.queue = s.mgmt.queue ∧ (loadingCompletes s).mgmt.cursor = s.mgmt.cursor ∧
      (loadingCompletes s).mgmt.storeSender = s.mgmt.storeSender ∧
      (loadingCompletes s).mgmt.proxySender = s.mgmt.proxySender ∧
      (loadingCompletes s).mgmt.restartPending = s.mgmt.restartPending ∧ (loadingCompletes s).store.engine = s.store.engine := by
  simp only [loadingCompletes, areasRead]
  repeat' split
  all_goals simp

/-- What `storeEnds` leaves as it is. -/
@[simp] theorem storeEnds_frame (ok : Bool) (s : State) :
    (storeEnds ok s).pending = s.pending ∧ (storeEnds ok s).clock = s.clock ∧ (storeEnds ok s).epoch = s.epoch ∧
      (storeEnds ok s).draws = s.draws ∧ (storeEnds ok s).phase = s.phase ∧
      (storeEnds ok s).ring.ownAddress = s.ring.ownAddress ∧ (storeEnds ok s).ring.rate = s.ring.rate ∧
      (storeEnds ok s).ring.relayQueue = s.ring.relayQueue ∧ (storeEnds ok s).ring.runCount = s.ring.runCount ∧
      (storeEnds ok s).ring.relayed = s.ring.relayed ∧ (storeEnds ok s).ring.badCheck = s.ring.badCheck ∧
      (storeEnds ok s).ring.hopExpiry = s.ring.hopExpiry ∧ (storeEnds ok s).ring.relayFull = s.ring.relayFull ∧
      (storeEnds ok s).ring.ringSilent = s.ring.ringSilent ∧
      (storeEnds ok s).ring.silenceTimer = s.ring.silenceTimer ∧ (storeEnds ok s).ring.portB = s.ring.portB ∧
      (storeEnds ok s).nodes = s.nodes ∧ (storeEnds ok s).delivery = s.delivery ∧ (storeEnds ok s).air = s.air ∧
      (storeEnds ok s).fans = s.fans ∧ (storeEnds ok s).guide = s.guide ∧ (storeEnds ok s).light = s.light ∧
      (storeEnds ok s).faults.list = s.faults.list ∧ (storeEnds ok s).faults.gasHigh = s.faults.gasHigh ∧
      (storeEnds ok s).faults.shortfall = s.faults.shortfall ∧
      (storeEnds ok s).faults.noticeNumber = s.faults.noticeNumber ∧ (storeEnds ok s).fire.latch = s.fire.latch ∧
      (storeEnds ok s).fire.plan = s.fire.plan ∧ (storeEnds ok s).fire.startTimers = s.fire.startTimers ∧
      (storeEnds ok s).fire.fireIn = s.fire.fireIn ∧ (storeEnds ok s).fire.fireHeld = s.fire.fireHeld ∧
      (storeEnds ok s).fire.keysw = s.fire.keysw ∧ (storeEnds ok s).mgmt.queue = s.mgmt.queue ∧
      (storeEnds ok s).mgmt.cursor = s.mgmt.cursor ∧ (storeEnds ok s).mgmt.proxySender = s.mgmt.proxySender ∧
      (storeEnds ok s).mgmt.restartPending = s.mgmt.restartPending ∧ (storeEnds ok s).tables = s.tables := by
  simp only [storeEnds]
  repeat' split
  all_goals simp

/-- What `restartNow` leaves as it is. -/
@[simp] theorem restartNow_frame  (s : State) :
    (restartNow s).pending = s.pending ∧ (restartNow s).clock = s.clock ∧ (restartNow s).draws = s.draws ∧
      (restartNow s).fire.latch = s.fire.latch ∧ (restartNow s).fire.plan = s.fire.plan ∧
      (restartNow s).fire.planLock = s.fire.planLock ∧ (restartNow s).fire.fireIn = s.fire.fireIn ∧
      (restartNow s).fire.keysw = s.fire.keysw ∧ (restartNow s).tables = s.tables ∧
      (restartNow s).store.settingsArea = s.store.settingsArea ∧
      (restartNow s).store.planArea = s.store.planArea := by
  simp [restartNow]

/-- What `restartTakesEffect` leaves as it is. -/
@[simp] theorem restartTakesEffect_frame  (s : State) :
    (restartTakesEffect s).pending = s.pending ∧ (restartTakesEffect s).clock = s.clock ∧
      (restartTakesEffect s).draws = s.draws ∧ (restartTakesEffect s).fire.latch = s.fire.latch ∧
      (restartTakesEffect s).fire.plan = s.fire.plan ∧ (restartTakesEffect s).fire.planLock = s.fire.planLock ∧
      (restartTakesEffect s).fire.fireIn = s.fire.fireIn ∧ (restartTakesEffect s).fire.keysw = s.fire.keysw ∧
      (restartTakesEffect s).tables = s.tables ∧ (restartTakesEffect s).store.settingsArea = s.store.settingsArea ∧
      (restartTakesEffect s).store.planArea = s.store.planArea := by
  simp only [restartTakesEffect]
  repeat' split
  all_goals simp

/-- What `powerOn` leaves as it is. -/
@[simp] theorem powerOn_frame (rate straps : Nat) (s : State) :
    (powerOn rate straps s).pending = s.pending ∧ (powerOn rate straps s).clock = s.clock ∧
      (powerOn rate straps s).draws = s.draws := by
  simp only [powerOn, freshStart]
  repeat' split
  all_goals simp

/-- What `resetReleased` leaves as it is. -/
@[simp] theorem resetReleased_frame (straps : Nat) (s : State) :
    (resetReleased straps s).pending = s.pending ∧ (resetReleased straps s).clock = s.clock ∧
      (resetReleased straps s).draws = s.draws := by
  simp only [resetReleased, freshStart]
  repeat' split
  all_goals simp

/-- What `answer` leaves as it is. -/
@[simp] theorem answer_frame (r : Request) (code : Nat) (content : List Byte) (s : State) :
    (answer r code content s).pending = s.pending ∧ (answer r code content s).clock = s.clock ∧
      (answer r code content s).epoch = s.epoch ∧ (answer r code content s).draws = s.draws ∧
      (answer r code content s).phase = s.phase ∧ (answer r code content s).ring.ownAddress = s.ring.ownAddress ∧
      (answer r code content s).ring.rate = s.ring.rate ∧
      (answer r code content s).ring.relayQueue = s.ring.relayQueue ∧
      (answer r code content s).ring.runCount = s.ring.runCount ∧
      (answer r code content s).ring.relayed = s.ring.relayed ∧
      (answer r code content s).ring.badCheck = s.ring.badCheck ∧
      (answer r code content s).ring.hopExpiry = s.ring.hopExpiry ∧
      (answer r code content s).ring.relayFull = s.ring.relayFull ∧
      (answer r code content s).ring.ringSilent = s.ring.ringSilent ∧
      (answer r code content s).ring.silenceTimer = s.ring.silenceTimer ∧
      (answer r code content s).ring.portB = s.ring.portB ∧ (answer r code content s).nodes = s.nodes ∧
      (answer r code content s).delivery = s.delivery ∧ (answer r code content s).air = s.air ∧
      (answer r code content s).fans = s.fans ∧ (answer r code content s).guide = s.guide ∧
      (answer r code content s).light = s.light ∧ (answer r code content s).faults = s.faults ∧
      (answer r code content s).fire = s.fire ∧ (answer r code content s).mgmt.queue = s.mgmt.queue ∧
      (answer r code content s).mgmt.cursor = s.mgmt.cursor ∧
      (answer r code content s).mgmt.storeSender = s.mgmt.storeSender ∧
      (answer r code content s).mgmt.proxySender = s.mgmt.proxySender ∧
      (answer r code content s).mgmt.restartPending = s.mgmt.restartPending ∧
      (answer r code content s).tables = s.tables ∧ (answer r code content s).store = s.store := by
  simp [answer]

/-- What `doAim` leaves as it is. -/
@[simp] theorem doAim_frame (table index : Nat) (r : Request) (s : State) :
    (doAim table index r s).pending = s.pending ∧ (doAim table index r s).clock = s.clock ∧
      (doAim table index r s).epoch = s.epoch ∧ (doAim table index r s).draws = s.draws ∧
      (doAim table index r s).phase = s.phase ∧ (doAim table index r s).ring.ownAddress = s.ring.ownAddress ∧
      (doAim table index r s).ring.rate = s.ring.rate ∧ (doAim table index r s).ring.relayQueue = s.ring.relayQueue ∧
      (doAim table index r s).ring.runCount = s.ring.runCount ∧
      (doAim table index r s).ring.relayed = s.ring.relayed ∧
      (doAim table index r s).ring.badCheck = s.ring.badCheck ∧
      (doAim table index r s).ring.hopExpiry = s.ring.hopExpiry ∧
      (doAim table index r s).ring.relayFull = s.ring.relayFull ∧
      (doAim table index r s).ring.ringSilent = s.ring.ringSilent ∧
      (doAim table index r s).ring.silenceTimer = s.ring.silenceTimer ∧
      (doAim table index r s).ring.portB = s.ring.portB ∧ (doAim table index r s).nodes = s.nodes ∧
      (doAim table index r s).delivery = s.delivery ∧ (doAim table index r s).air = s.air ∧
      (doAim table index r s).fans = s.fans ∧ (doAim table index r s).guide = s.guide ∧
      (doAim table index r s).light = s.light ∧ (doAim table index r s).faults = s.faults ∧
      (doAim table index r s).fire = s.fire ∧ (doAim table index r s).mgmt.queue = s.mgmt.queue ∧
      (doAim table index r s).mgmt.storeSender = s.mgmt.storeSender ∧
      (doAim table index r s).mgmt.proxySender = s.mgmt.proxySender ∧
      (doAim table index r s).mgmt.restartPending = s.mgmt.restartPending ∧
      (doAim table index r s).tables = s.tables ∧ (doAim table index r s).store = s.store := by
  simp only [doAim]
  repeat' split
  all_goals simp

/-- What `putEntries` leaves as it is. -/
@[simp] theorem putEntries_frame (bytes : List Byte) (r : Request) (s : State) :
    (putEntries bytes r s).pending = s.pending ∧ (putEntries bytes r s).clock = s.clock ∧
      (putEntries bytes r s).epoch = s.epoch ∧ (putEntries bytes r s).draws = s.draws ∧
      (putEntries bytes r s).phase = s.phase ∧ (putEntries bytes r s).ring.ownAddress = s.ring.ownAddress ∧
      (putEntries bytes r s).ring.rate = s.ring.rate ∧ (putEntries bytes r s).ring.relayQueue = s.ring.relayQueue ∧
      (putEntries bytes r s).ring.runCount = s.ring.runCount ∧ (putEntries bytes r s).ring.relayed = s.ring.relayed ∧
      (putEntries bytes r s).ring.badCheck = s.ring.badCheck ∧
      (putEntries bytes r s).ring.hopExpiry = s.ring.hopExpiry ∧
      (putEntries bytes r s).ring.relayFull = s.ring.relayFull ∧
      (putEntries bytes r s).ring.ringSilent = s.ring.ringSilent ∧
      (putEntries bytes r s).ring.silenceTimer = s.ring.silenceTimer ∧
      (putEntries bytes r s).ring.portB = s.ring.portB ∧
      (putEntries bytes r s).delivery.tagCounter = s.delivery.tagCounter ∧ (putEntries bytes r s).air = s.air ∧
      (putEntries bytes r s).light.stepTimer = s.light.stepTimer ∧
      (putEntries bytes r s).faults.flags = s.faults.flags ∧
      (putEntries bytes r s).faults.gasHigh = s.faults.gasHigh ∧
      (putEntries bytes r s).faults.shortfall = s.faults.shortfall ∧
      (putEntries bytes r s).faults.risen = s.faults.risen ∧
      (putEntries bytes r s).faults.noticeNumber = s.faults.noticeNumber ∧
      (putEntries bytes r s).fire.latch = s.fire.latch ∧ (putEntries bytes r s).fire.planLock = s.fire.planLock ∧
      (putEntries bytes r s).fire.startTimers = s.fire.startTimers ∧
      (putEntries bytes r s).fire.fireIn = s.fire.fireIn ∧ (putEntries bytes r s).fire.fireHeld = s.fire.fireHeld ∧
      (putEntries bytes r s).fire.keysw = s.fire.keysw ∧ (putEntries bytes r s).mgmt.queue = s.mgmt.queue ∧
      (putEntries bytes r s).mgmt.storeSender = s.mgmt.storeSender ∧
      (putEntries bytes r s).mgmt.proxySender = s.mgmt.proxySender ∧
      (putEntries bytes r s).mgmt.restartPending = s.mgmt.restartPending ∧
      (putEntries bytes r s).store = s.store := by
  simp only [putEntries]
  repeat' split
  all_goals simp

/-- What `doPut` leaves as it is. -/
@[simp] theorem doPut_frame (table index : Nat) (bytes : List Byte) (r : Request) (s : State) :
    (doPut table index bytes r s).pending = s.pending ∧ (doPut table index bytes r s).clock = s.clock ∧
      (doPut table index bytes r s).epoch = s.epoch ∧ (doPut table index bytes r s).draws = s.draws ∧
      (doPut table index bytes r s).phase = s.phase ∧
      (doPut table index bytes r s).ring.ownAddress = s.ring.ownAddress ∧
      (doPut table index bytes r s).ring.rate = s.ring.rate ∧
      (doPut table index bytes r s).ring.relayQueue = s.ring.relayQueue ∧
      (doPut table index bytes r s).ring.runCount = s.ring.runCount ∧
      (doPut table index bytes r s).ring.relayed = s.ring.relayed ∧
      (doPut table index bytes r s).ring.badCheck = s.ring.badCheck ∧
      (doPut table index bytes r s).ring.hopExpiry = s.ring.hopExpiry ∧
      (doPut table index bytes r s).ring.relayFull = s.ring.relayFull ∧
      (doPut table index bytes r s).ring.ringSilent = s.ring.ringSilent ∧
      (doPut table index bytes r s).ring.silenceTimer = s.ring.silenceTimer ∧
      (doPut table index bytes r s).ring.portB = s.ring.portB ∧
      (doPut table index bytes r s).delivery.tagCounter = s.delivery.tagCounter ∧
      (doPut table index bytes r s).air = s.air ∧ (doPut table index bytes r s).light.stepTimer = s.light.stepTimer ∧
      (doPut table index bytes r s).faults.flags = s.faults.flags ∧
      (doPut table index bytes r s).faults.gasHigh = s.faults.gasHigh ∧
      (doPut table index bytes r s).faults.shortfall = s.faults.shortfall ∧
      (doPut table index bytes r s).faults.risen = s.faults.risen ∧
      (doPut table index bytes r s).faults.noticeNumber = s.faults.noticeNumber ∧
      (doPut table index bytes r s).fire.latch = s.fire.latch ∧
      (doPut table index bytes r s).fire.planLock = s.fire.planLock ∧
      (doPut table index bytes r s).fire.startTimers = s.fire.startTimers ∧
      (doPut table index bytes r s).fire.fireIn = s.fire.fireIn ∧
      (doPut table index bytes r s).fire.fireHeld = s.fire.fireHeld ∧
      (doPut table index bytes r s).fire.keysw = s.fire.keysw ∧
      (doPut table index bytes r s).mgmt.queue = s.mgmt.queue ∧
      (doPut table index bytes r s).mgmt.storeSender = s.mgmt.storeSender ∧
      (doPut table index bytes r s).mgmt.proxySender = s.mgmt.proxySender ∧
      (doPut table index bytes r s).mgmt.restartPending = s.mgmt.restartPending ∧
      (doPut table index bytes r s).store = s.store := by
  simp only [doPut]
  repeat' split
  all_goals simp

/-- What `doFetch` leaves as it is. -/
@[simp] theorem doFetch_frame (n : Nat) (r : Request) (s : State) :
    (doFetch n r s).pending = s.pending ∧ (doFetch n r s).clock = s.clock ∧ (doFetch n r s).epoch = s.epoch ∧
      (doFetch n r s).draws = s.draws ∧ (doFetch n r s).phase = s.phase ∧
      (doFetch n r s).ring.ownAddress = s.ring.ownAddress ∧ (doFetch n r s).ring.rate = s.ring.rate ∧
      (doFetch n r s).ring.relayQueue = s.ring.relayQueue ∧ (doFetch n r s).ring.runCount = s.ring.runCount ∧
      (doFetch n r s).ring.relayed = s.ring.relayed ∧ (doFetch n r s).ring.badCheck = s.ring.badCheck ∧
      (doFetch n r s).ring.hopExpiry = s.ring.hopExpiry ∧ (doFetch n r s).ring.relayFull = s.ring.relayFull ∧
      (doFetch n r s).ring.ringSilent = s.ring.ringSilent ∧ (doFetch n r s).ring.silenceTimer = s.ring.silenceTimer ∧
      (doFetch n r s).ring.portB = s.ring.portB ∧ (doFetch n r s).nodes = s.nodes ∧
      (doFetch n r s).delivery = s.delivery ∧ (doFetch n r s).air = s.air ∧ (doFetch n r s).fans = s.fans ∧
      (doFetch n r s).guide = s.guide ∧ (doFetch n r s).light = s.light ∧ (doFetch n r s).faults = s.faults ∧
      (doFetch n r s).fire = s.fire ∧ (doFetch n r s).mgmt.queue = s.mgmt.queue ∧
      (doFetch n r s).mgmt.storeSender = s.mgmt.storeSender ∧ (doFetch n r s).mgmt.proxySender = s.mgmt.proxySender ∧
      (doFetch n r s).mgmt.restartPending = s.mgmt.restartPending ∧ (doFetch n r s).tables = s.tables ∧
      (doFetch n r s).store = s.store := by
  simp [doFetch]

/-- What `startStore` leaves as it is. -/
@[simp] theorem startStore_frame (op : StoreOp) (ticks : Nat) (r : Request) (s : State) :
    (startStore op ticks r s).pending = s.pending ∧ (startStore op ticks r s).clock = s.clock ∧
      (startStore op ticks r s).epoch = s.epoch ∧ (startStore op ticks r s).draws = s.draws ∧
      (startStore op ticks r s).phase = s.phase ∧ (startStore op ticks r s).ring = s.ring ∧
      (startStore op ticks r s).nodes = s.nodes ∧ (startStore op ticks r s).delivery = s.delivery ∧
      (startStore op ticks r s).air = s.air ∧ (startStore op ticks r s).fans = s.fans ∧
      (startStore op ticks r s).guide = s.guide ∧ (startStore op ticks r s).light = s.light ∧
      (startStore op ticks r s).faults = s.faults ∧ (startStore op ticks r s).fire = s.fire ∧
      (startStore op ticks r s).mgmt.queue = s.mgmt.queue ∧
      (startStore op ticks r s).mgmt.outgoing = s.mgmt.outgoing ∧
      (startStore op ticks r s).mgmt.cursor = s.mgmt.cursor ∧
      (startStore op ticks r s).mgmt.proxySender = s.mgmt.proxySender ∧
      (startStore op ticks r s).mgmt.restartPending = s.mgmt.restartPending ∧
      (startStore op ticks r s).tables = s.tables ∧
      (startStore op ticks r s).store.settingsArea = s.store.settingsArea ∧
      (startStore op ticks r s).store.planArea = s.store.planArea := by
  simp [startStore]

/-- What `doKeep` leaves as it is. -/
@[simp] theorem doKeep_frame (r : Request) (s : State) :
    (doKeep r s).pending = s.pending ∧ (doKeep r s).clock = s.clock ∧ (doKeep r s).epoch = s.epoch ∧
      (doKeep r s).draws = s.draws ∧ (doKeep r s).phase = s.phase ∧
      (doKeep r s).ring.ownAddress = s.ring.ownAddress ∧ (doKeep r s).ring.rate = s.ring.rate ∧
      (doKeep r s).ring.relayQueue = s.ring.relayQueue ∧ (doKeep r s).ring.runCount = s.ring.runCount ∧
      (doKeep r s).ring.relayed = s.ring.relayed ∧ (doKeep r s).ring.badCheck = s.ring.badCheck ∧
      (doKeep r s).ring.hopExpiry = s.ring.hopExpiry ∧ (doKeep r s).ring.relayFull = s.ring.relayFull ∧
      (doKeep r s).ring.ringSilent = s.ring.ringSilent ∧ (doKeep r s).ring.silenceTimer = s.ring.silenceTimer ∧
      (doKeep r s).ring.portB = s.ring.portB ∧ (doKeep r s).nodes = s.nodes ∧ (doKeep r s).delivery = s.delivery ∧
      (doKeep r s).air = s.air ∧ (doKeep r s).fans = s.fans ∧ (doKeep r s).guide = s.guide ∧
      (doKeep r s).light = s.light ∧ (doKeep r s).faults = s.faults ∧ (doKeep r s).fire = s.fire ∧
      (doKeep r s).mgmt.queue = s.mgmt.queue ∧ (doKeep r s).mgmt.cursor = s.mgmt.cursor ∧
      (doKeep r s).mgmt.proxySender = s.mgmt.proxySender ∧ (doKeep r s).mgmt.restartPending = s.mgmt.restartPending ∧
      (doKeep r s).tables = s.tables ∧ (doKeep r s).store.settingsArea = s.store.settingsArea ∧
      (doKeep r s).store.planArea = s.store.planArea := by
  simp only [doKeep]
  repeat' split
  all_goals simp

/-- What `doLockPlan` leaves as it is. -/
@[simp] theorem doLockPlan_frame (r : Request) (s : State) :
    (doLockPlan r s).pending = s.pending ∧ (doLockPlan r s).clock = s.clock ∧ (doLockPlan r s).epoch = s.epoch ∧
      (doLockPlan r s).draws = s.draws ∧ (doLockPlan r s).phase = s.phase ∧
      (doLockPlan r s).ring.ownAddress = s.ring.ownAddress ∧ (doLockPlan r s).ring.rate = s.ring.rate ∧
      (doLockPlan r s).ring.relayQueue = s.ring.relayQueue ∧ (doLockPlan r s).ring.runCount = s.ring.runCount ∧
      (doLockPlan r s).ring.relayed = s.ring.relayed ∧ (doLockPlan r s).ring.badCheck = s.ring.badCheck ∧
      (doLockPlan r s).ring.hopExpiry = s.ring.hopExpiry ∧ (doLockPlan r s).ring.relayFull = s.ring.relayFull ∧
      (doLockPlan r s).ring.ringSilent = s.ring.ringSilent ∧
      (doLockPlan r s).ring.silenceTimer = s.ring.silenceTimer ∧ (doLockPlan r s).ring.portB = s.ring.portB ∧
      (doLockPlan r s).nodes = s.nodes ∧ (doLockPlan r s).delivery = s.delivery ∧ (doLockPlan r s).air = s.air ∧
      (doLockPlan r s).fans = s.fans ∧ (doLockPlan r s).guide = s.guide ∧ (doLockPlan r s).light = s.light ∧
      (doLockPlan r s).faults = s.faults ∧ (doLockPlan r s).fire = s.fire ∧
      (doLockPlan r s).mgmt.queue = s.mgmt.queue ∧ (doLockPlan r s).mgmt.cursor = s.mgmt.cursor ∧
      (doLockPlan r s).mgmt.proxySender = s.mgmt.proxySender ∧
      (doLockPlan r s).mgmt.restartPending = s.mgmt.restartPending ∧ (doLockPlan r s).tables = s.tables ∧
      (doLockPlan r s).store.settingsArea = s.store.settingsArea ∧
      (doLockPlan r s).store.planArea = s.store.planArea := by
  simp only [doLockPlan]
  repeat' split
  all_goals simp

/-- What `doUnlockPlan` leaves as it is. -/
@[simp] theorem doUnlockPlan_frame (r : Request) (s : State) :
    (doUnlockPlan r s).pending = s.pending ∧ (doUnlockPlan r s).clock = s.clock ∧
      (doUnlockPlan r s).epoch = s.epoch ∧ (doUnlockPlan r s).draws = s.draws ∧ (doUnlockPlan r s).phase = s.phase ∧
      (doUnlockPlan r s).ring.ownAddress = s.ring.ownAddress ∧ (doUnlockPlan r s).ring.rate = s.ring.rate ∧
      (doUnlockPlan r s).ring.relayQueue = s.ring.relayQueue ∧ (doUnlockPlan r s).ring.runCount = s.ring.runCount ∧
      (doUnlockPlan r s).ring.relayed = s.ring.relayed ∧ (doUnlockPlan r s).ring.badCheck = s.ring.badCheck ∧
      (doUnlockPlan r s).ring.hopExpiry = s.ring.hopExpiry ∧ (doUnlockPlan r s).ring.relayFull = s.ring.relayFull ∧
      (doUnlockPlan r s).ring.ringSilent = s.ring.ringSilent ∧
      (doUnlockPlan r s).ring.silenceTimer = s.ring.silenceTimer ∧ (doUnlockPlan r s).ring.portB = s.ring.portB ∧
      (doUnlockPlan r s).nodes = s.nodes ∧ (doUnlockPlan r s).delivery = s.delivery ∧
      (doUnlockPlan r s).air = s.air ∧ (doUnlockPlan r s).fans = s.fans ∧ (doUnlockPlan r s).guide = s.guide ∧
      (doUnlockPlan r s).light = s.light ∧ (doUnlockPlan r s).faults = s.faults ∧ (doUnlockPlan r s).fire = s.fire ∧
      (doUnlockPlan r s).mgmt.queue = s.mgmt.queue ∧ (doUnlockPlan r s).mgmt.cursor = s.mgmt.cursor ∧
      (doUnlockPlan r s).mgmt.proxySender = s.mgmt.proxySender ∧
      (doUnlockPlan r s).mgmt.restartPending = s.mgmt.restartPending ∧ (doUnlockPlan r s).tables = s.tables ∧
      (doUnlockPlan r s).store.settingsArea = s.store.settingsArea ∧
      (doUnlockPlan r s).store.planArea = s.store.planArea := by
  simp only [doUnlockPlan]
  repeat' split
  all_goals simp

/-- What `foldAck` leaves as it is. -/
@[simp] theorem foldAck_frame (l : List Flag) (s : State) :
    (l.foldl ackFlag s).pending = s.pending ∧ (l.foldl ackFlag s).clock = s.clock ∧
      (l.foldl ackFlag s).epoch = s.epoch ∧ (l.foldl ackFlag s).draws = s.draws ∧
      (l.foldl ackFlag s).phase = s.phase ∧ (l.foldl ackFlag s).ring = s.ring ∧ (l.foldl ackFlag s).nodes = s.nodes ∧
      (l.foldl ackFlag s).delivery = s.delivery ∧ (l.foldl ackFlag s).air = s.air ∧
      (l.foldl ackFlag s).fans = s.fans ∧ (l.foldl ackFlag s).guide = s.guide ∧ (l.foldl ackFlag s).light = s.light ∧
      (l.foldl ackFlag s).faults.list = s.faults.list ∧ (l.foldl ackFlag s).faults.alert = s.faults.alert ∧
      (l.foldl ackFlag s).faults.gasHigh = s.faults.gasHigh ∧
      (l.foldl ackFlag s).faults.shortfall = s.faults.shortfall ∧ (l.foldl ackFlag s).faults.risen = s.faults.risen ∧
      (l.foldl ackFlag s).faults.notice = s.faults.notice ∧
      (l.foldl ackFlag s).faults.noticeNumber = s.faults.noticeNumber ∧ (l.foldl ackFlag s).fire = s.fire ∧
      (l.foldl ackFlag s).mgmt = s.mgmt ∧ (l.foldl ackFlag s).tables = s.tables ∧
      (l.foldl ackFlag s).store = s.store := by
  refine foldl_frame (R := fun a b =>
    b.pending = a.pending ∧ b.clock = a.clock ∧ b.epoch = a.epoch ∧ b.draws = a.draws ∧ b.phase = a.phase ∧
    b.ring = a.ring ∧ b.nodes = a.nodes ∧ b.delivery = a.delivery ∧ b.air = a.air ∧ b.fans = a.fans ∧
    b.guide = a.guide ∧ b.light = a.light ∧ b.faults.list = a.faults.list ∧ b.faults.alert = a.faults.alert ∧
    b.faults.gasHigh = a.faults.gasHigh ∧ b.faults.shortfall = a.faults.shortfall ∧
    b.faults.risen = a.faults.risen ∧ b.faults.notice = a.faults.notice ∧
    b.faults.noticeNumber = a.faults.noticeNumber ∧ b.fire = a.fire ∧ b.mgmt = a.mgmt ∧ b.tables = a.tables ∧
    b.store = a.store) ?_ ?_ ?_ l s
  · intro t; simp
  · intro a b c h1 h2; simp_all
  · intro i t; simp

/-- What `ackFlags` leaves as it is. -/
@[simp] theorem ackFlags_frame (l : List Nat) (s : State) :
    (ackFlags l s).pending = s.pending ∧ (ackFlags l s).clock = s.clock ∧ (ackFlags l s).epoch = s.epoch ∧
      (ackFlags l s).draws = s.draws ∧ (ackFlags l s).phase = s.phase ∧ (ackFlags l s).ring = s.ring ∧
      (ackFlags l s).nodes = s.nodes ∧ (ackFlags l s).delivery = s.delivery ∧ (ackFlags l s).air = s.air ∧
      (ackFlags l s).fans = s.fans ∧ (ackFlags l s).guide = s.guide ∧ (ackFlags l s).light = s.light ∧
      (ackFlags l s).faults.list = s.faults.list ∧ (ackFlags l s).faults.gasHigh = s.faults.gasHigh ∧
      (ackFlags l s).faults.shortfall = s.faults.shortfall ∧ (ackFlags l s).faults.risen = s.faults.risen ∧
      (ackFlags l s).faults.notice = s.faults.notice ∧ (ackFlags l s).faults.noticeNumber = s.faults.noticeNumber ∧
      (ackFlags l s).fire = s.fire ∧ (ackFlags l s).mgmt = s.mgmt ∧ (ackFlags l s).tables = s.tables ∧
      (ackFlags l s).store = s.store := by
  simp [ackFlags]

/-- What `doAck` leaves as it is. -/
@[simp] theorem doAck_frame (l : List Nat) (r : Request) (s : State) :
    (doAck l r s).pending = s.pending ∧ (doAck l r s).clock = s.clock ∧ (doAck l r s).epoch = s.epoch ∧
      (doAck l r s).draws = s.draws ∧ (doAck l r s).phase = s.phase ∧
      (doAck l r s).ring.ownAddress = s.ring.ownAddress ∧ (doAck l r s).ring.rate = s.ring.rate ∧
      (doAck l r s).ring.relayQueue = s.ring.relayQueue ∧ (doAck l r s).ring.runCount = s.ring.runCount ∧
      (doAck l r s).ring.relayed = s.ring.relayed ∧ (doAck l r s).ring.badCheck = s.ring.badCheck ∧
      (doAck l r s).ring.hopExpiry = s.ring.hopExpiry ∧ (doAck l r s).ring.relayFull = s.ring.relayFull ∧
      (doAck l r s).ring.ringSilent = s.ring.ringSilent ∧ (doAck l r s).ring.silenceTimer = s.ring.silenceTimer ∧
      (doAck l r s).ring.portB = s.ring.portB ∧ (doAck l r s).nodes = s.nodes ∧ (doAck l r s).delivery = s.delivery ∧
      (doAck l r s).air = s.air ∧ (doAck l r s).fans = s.fans ∧ (doAck l r s).guide = s.guide ∧
      (doAck l r s).light = s.light ∧ (doAck l r s).faults.list = s.faults.list ∧
      (doAck l r s).faults.gasHigh = s.faults.gasHigh ∧ (doAck l r s).faults.shortfall = s.faults.shortfall ∧
      (doAck l r s).faults.risen = s.faults.risen ∧ (doAck l r s).faults.notice = s.faults.notice ∧
      (doAck l r s).faults.noticeNumber = s.faults.noticeNumber ∧ (doAck l r s).fire = s.fire ∧
      (doAck l r s).mgmt.queue = s.mgmt.queue ∧ (doAck l r s).mgmt.cursor = s.mgmt.cursor ∧
      (doAck l r s).mgmt.storeSender = s.mgmt.storeSender ∧ (doAck l r s).mgmt.proxySender = s.mgmt.proxySender ∧
      (doAck l r s).mgmt.restartPending = s.mgmt.restartPending ∧ (doAck l r s).tables = s.tables ∧
      (doAck l r s).store = s.store := by
  simp only [doAck]
  repeat' split
  all_goals simp

/-- What `doClearFaults` leaves as it is. -/
@[simp] theorem doClearFaults_frame (k : Nat) (r : Request) (s : State) :
    (doClearFaults k r s).pending = s.pending ∧ (doClearFaults k r s).clock = s.clock ∧
      (doClearFaults k r s).epoch = s.epoch ∧ (doClearFaults k r s).draws = s.draws ∧
      (doClearFaults k r s).phase = s.phase ∧ (doClearFaults k r s).ring.ownAddress = s.ring.ownAddress ∧
      (doClearFaults k r s).ring.rate = s.ring.rate ∧ (doClearFaults k r s).ring.relayQueue = s.ring.relayQueue ∧
      (doClearFaults k r s).ring.runCount = s.ring.runCount ∧ (doClearFaults k r s).ring.relayed = s.ring.relayed ∧
      (doClearFaults k r s).ring.badCheck = s.ring.badCheck ∧
      (doClearFaults k r s).ring.hopExpiry = s.ring.hopExpiry ∧
      (doClearFaults k r s).ring.relayFull = s.ring.relayFull ∧
      (doClearFaults k r s).ring.ringSilent = s.ring.ringSilent ∧
      (doClearFaults k r s).ring.silenceTimer = s.ring.silenceTimer ∧
      (doClearFaults k r s).ring.portB = s.ring.portB ∧ (doClearFaults k r s).nodes = s.nodes ∧
      (doClearFaults k r s).delivery.tagCounter = s.delivery.tagCounter ∧
      (doClearFaults k r s).delivery.noTake = s.delivery.noTake ∧ (doClearFaults k r s).air = s.air ∧
      (doClearFaults k r s).guide.bays = s.guide.bays ∧ (doClearFaults k r s).guide.rowFree = s.guide.rowFree ∧
      (doClearFaults k r s).guide.levels = s.guide.levels ∧
      (doClearFaults k r s).guide.clusterFault = s.guide.clusterFault ∧
      (doClearFaults k r s).light.stepTimer = s.light.stepTimer ∧
      (doClearFaults k r s).faults.flags = s.faults.flags ∧ (doClearFaults k r s).faults.alert = s.faults.alert ∧
      (doClearFaults k r s).faults.gasHigh = s.faults.gasHigh ∧
      (doClearFaults k r s).faults.shortfall = s.faults.shortfall ∧
      (doClearFaults k r s).faults.risen = s.faults.risen ∧
      (doClearFaults k r s).faults.noticeNumber = s.faults.noticeNumber ∧ (doClearFaults k r s).fire = s.fire ∧
      (doClearFaults k r s).mgmt.queue = s.mgmt.queue ∧ (doClearFaults k r s).mgmt.cursor = s.mgmt.cursor ∧
      (doClearFaults k r s).mgmt.storeSender = s.mgmt.storeSender ∧
      (doClearFaults k r s).mgmt.proxySender = s.mgmt.proxySender ∧
      (doClearFaults k r s).mgmt.restartPending = s.mgmt.restartPending ∧ (doClearFaults k r s).tables = s.tables ∧
      (doClearFaults k r s).store = s.store := by
  simp only [doClearFaults]
  repeat' split
  all_goals simp

/-- What `takeManual` leaves as it is. -/
@[simp] theorem takeManual_frame (i : Nat) (x : FanSetting) (s : State) :
    (takeManual i x s).pending = s.pending ∧ (takeManual i x s).clock = s.clock ∧
      (takeManual i x s).epoch = s.epoch ∧ (takeManual i x s).draws = s.draws ∧ (takeManual i x s).phase = s.phase ∧
      (takeManual i x s).ring.ownAddress = s.ring.ownAddress ∧ (takeManual i x s).ring.rate = s.ring.rate ∧
      (takeManual i x s).ring.relayQueue = s.ring.relayQueue ∧ (takeManual i x s).ring.runCount = s.ring.runCount ∧
      (takeManual i x s).ring.relayed = s.ring.relayed ∧ (takeManual i x s).ring.badCheck = s.ring.badCheck ∧
      (takeManual i x s).ring.hopExpiry = s.ring.hopExpiry ∧ (takeManual i x s).ring.relayFull = s.ring.relayFull ∧
      (takeManual i x s).ring.ringSilent = s.ring.ringSilent ∧
      (takeManual i x s).ring.silenceTimer = s.ring.silenceTimer ∧ (takeManual i x s).ring.portB = s.ring.portB ∧
      (takeManual i x s).nodes = s.nodes ∧ (takeManual i x s).delivery.tagCounter = s.delivery.tagCounter ∧
      (takeManual i x s).delivery.proxy = s.delivery.proxy ∧ (takeManual i x s).delivery.noTake = s.delivery.noTake ∧
      (takeManual i x s).air = s.air ∧ (takeManual i x s).guide = s.guide ∧ (takeManual i x s).light = s.light ∧
      (takeManual i x s).faults.flags = s.faults.flags ∧ (takeManual i x s).faults.alert = s.faults.alert ∧
      (takeManual i x s).faults.gasHigh = s.faults.gasHigh ∧
      (takeManual i x s).faults.shortfall = s.faults.shortfall ∧ (takeManual i x s).faults.risen = s.faults.risen ∧
      (takeManual i x s).faults.notice = s.faults.notice ∧
      (takeManual i x s).faults.noticeNumber = s.faults.noticeNumber ∧ (takeManual i x s).fire = s.fire ∧
      (takeManual i x s).mgmt = s.mgmt ∧ (takeManual i x s).tables = s.tables ∧
      (takeManual i x s).store = s.store := by
  simp only [takeManual]
  repeat' split
  all_goals simp

/-- What `doManual` leaves as it is. -/
@[simp] theorem doManual_frame (i v d : Nat) (r : Request) (s : State) :
    (doManual i v d r s).pending = s.pending ∧ (doManual i v d r s).clock = s.clock ∧
      (doManual i v d r s).epoch = s.epoch ∧ (doManual i v d r s).draws = s.draws ∧
      (doManual i v d r s).phase = s.phase ∧ (doManual i v d r s).ring.ownAddress = s.ring.ownAddress ∧
      (doManual i v d r s).ring.rate = s.ring.rate ∧ (doManual i v d r s).ring.relayQueue = s.ring.relayQueue ∧
      (doManual i v d r s).ring.runCount = s.ring.runCount ∧ (doManual i v d r s).ring.relayed = s.ring.relayed ∧
      (doManual i v d r s).ring.badCheck = s.ring.badCheck ∧ (doManual i v d r s).ring.hopExpiry = s.ring.hopExpiry ∧
      (doManual i v d r s).ring.relayFull = s.ring.relayFull ∧
      (doManual i v d r s).ring.ringSilent = s.ring.ringSilent ∧
      (doManual i v d r s).ring.silenceTimer = s.ring.silenceTimer ∧ (doManual i v d r s).ring.portB = s.ring.portB ∧
      (doManual i v d r s).nodes = s.nodes ∧ (doManual i v d r s).delivery.tagCounter = s.delivery.tagCounter ∧
      (doManual i v d r s).delivery.proxy = s.delivery.proxy ∧
      (doManual i v d r s).delivery.noTake = s.delivery.noTake ∧ (doManual i v d r s).air = s.air ∧
      (doManual i v d r s).guide = s.guide ∧ (doManual i v d r s).light = s.light ∧
      (doManual i v d r s).faults.flags = s.faults.flags ∧ (doManual i v d r s).faults.alert = s.faults.alert ∧
      (doManual i v d r s).faults.gasHigh = s.faults.gasHigh ∧
      (doManual i v d r s).faults.shortfall = s.faults.shortfall ∧
      (doManual i v d r s).faults.risen = s.faults.risen ∧ (doManual i v d r s).faults.notice = s.faults.notice ∧
      (doManual i v d r s).faults.noticeNumber = s.faults.noticeNumber ∧ (doManual i v d r s).fire = s.fire ∧
      (doManual i v d r s).mgmt.queue = s.mgmt.queue ∧ (doManual i v d r s).mgmt.cursor = s.mgmt.cursor ∧
      (doManual i v d r s).mgmt.storeSender = s.mgmt.storeSender ∧
      (doManual i v d r s).mgmt.proxySender = s.mgmt.proxySender ∧
      (doManual i v d r s).mgmt.restartPending = s.mgmt.restartPending ∧ (doManual i v d r s).tables = s.tables ∧
      (doManual i v d r s).store = s.store := by
  simp only [doManual]
  repeat' split
  all_goals simp

/-- What `doAuto` leaves as it is. -/
@[simp] theorem doAuto_frame (i : Nat) (r : Request) (s : State) :
    (doAuto i r s).pending = s.pending ∧ (doAuto i r s).clock = s.clock ∧ (doAuto i r s).epoch = s.epoch ∧
      (doAuto i r s).draws = s.draws ∧ (doAuto i r s).phase = s.phase ∧
      (doAuto i r s).ring.ownAddress = s.ring.ownAddress ∧ (doAuto i r s).ring.rate = s.ring.rate ∧
      (doAuto i r s).ring.relayQueue = s.ring.relayQueue ∧ (doAuto i r s).ring.runCount = s.ring.runCount ∧
      (doAuto i r s).ring.relayed = s.ring.relayed ∧ (doAuto i r s).ring.badCheck = s.ring.badCheck ∧
      (doAuto i r s).ring.hopExpiry = s.ring.hopExpiry ∧ (doAuto i r s).ring.relayFull = s.ring.relayFull ∧
      (doAuto i r s).ring.ringSilent = s.ring.ringSilent ∧ (doAuto i r s).ring.silenceTimer = s.ring.silenceTimer ∧
      (doAuto i r s).ring.portB = s.ring.portB ∧ (doAuto i r s).nodes = s.nodes ∧
      (doAuto i r s).delivery = s.delivery ∧ (doAuto i r s).air = s.air ∧ (doAuto i r s).guide = s.guide ∧
      (doAuto i r s).light = s.light ∧ (doAuto i r s).faults = s.faults ∧ (doAuto i r s).fire = s.fire ∧
      (doAuto i r s).mgmt.queue = s.mgmt.queue ∧ (doAuto i r s).mgmt.cursor = s.mgmt.cursor ∧
      (doAuto i r s).mgmt.storeSender = s.mgmt.storeSender ∧ (doAuto i r s).mgmt.proxySender = s.mgmt.proxySender ∧
      (doAuto i r s).mgmt.restartPending = s.mgmt.restartPending ∧ (doAuto i r s).tables = s.tables ∧
      (doAuto i r s).store = s.store := by
  simp only [doAuto]
  repeat' split
  all_goals simp

/-- What `doOperator` leaves as it is. -/
@[simp] theorem doOperator_frame (on : Bool) (l : Nat) (r : Request) (s : State) :
    (doOperator on l r s).pending = s.pending ∧ (doOperator on l r s).clock = s.clock ∧
      (doOperator on l r s).epoch = s.epoch ∧ (doOperator on l r s).draws = s.draws ∧
      (doOperator on l r s).phase = s.phase ∧ (doOperator on l r s).ring.ownAddress = s.ring.ownAddress ∧
      (doOperator on l r s).ring.rate = s.ring.rate ∧ (doOperator on l r s).ring.relayQueue = s.ring.relayQueue ∧
      (doOperator on l r s).ring.runCount = s.ring.runCount ∧ (doOperator on l r s).ring.relayed = s.ring.relayed ∧
      (doOperator on l r s).ring.badCheck = s.ring.badCheck ∧
      (doOperator on l r s).ring.hopExpiry = s.ring.hopExpiry ∧
      (doOperator on l r s).ring.relayFull = s.ring.relayFull ∧
      (doOperator on l r s).ring.ringSilent = s.ring.ringSilent ∧
      (doOperator on l r s).ring.silenceTimer = s.ring.silenceTimer ∧
      (doOperator on l r s).ring.portB = s.ring.portB ∧ (doOperator on l r s).nodes = s.nodes ∧
      (doOperator on l r s).delivery.tagCounter = s.delivery.tagCounter ∧
      (doOperator on l r s).delivery.proxy = s.delivery.proxy ∧
      (doOperator on l r s).delivery.noTake = s.delivery.noTake ∧ (doOperator on l r s).air = s.air ∧
      (doOperator on l r s).fans = s.fans ∧ (doOperator on l r s).guide.bays = s.guide.bays ∧
      (doOperator on l r s).guide.rowFree = s.guide.rowFree ∧
      (doOperator on l r s).guide.clusterFault = s.guide.clusterFault ∧ (doOperator on l r s).light = s.light ∧
      (doOperator on l r s).faults = s.faults ∧ (doOperator on l r s).fire = s.fire ∧
      (doOperator on l r s).mgmt.queue = s.mgmt.queue ∧ (doOperator on l r s).mgmt.cursor = s.mgmt.cursor ∧
      (doOperator on l r s).mgmt.storeSender = s.mgmt.storeSender ∧
      (doOperator on l r s).mgmt.proxySender = s.mgmt.proxySender ∧
      (doOperator on l r s).mgmt.restartPending = s.mgmt.restartPending ∧ (doOperator on l r s).tables = s.tables ∧
      (doOperator on l r s).store = s.store := by
  simp only [doOperator]
  repeat' split
  all_goals simp

/-- What `holdBay` leaves as it is. -/
@[simp] theorem holdBay_frame (on : Bool) (b : Nat) (s : State) :
    (holdBay on b s).pending = s.pending ∧ (holdBay on b s).clock = s.clock ∧ (holdBay on b s).epoch = s.epoch ∧
      (holdBay on b s).draws = s.draws ∧ (holdBay on b s).phase = s.phase ∧
      (holdBay on b s).ring.ownAddress = s.ring.ownAddress ∧ (holdBay on b s).ring.rate = s.ring.rate ∧
      (holdBay on b s).ring.relayQueue = s.ring.relayQueue ∧ (holdBay on b s).ring.runCount = s.ring.runCount ∧
      (holdBay on b s).ring.relayed = s.ring.relayed ∧ (holdBay on b s).ring.badCheck = s.ring.badCheck ∧
      (holdBay on b s).ring.hopExpiry = s.ring.hopExpiry ∧ (holdBay on b s).ring.relayFull = s.ring.relayFull ∧
      (holdBay on b s).ring.ringSilent = s.ring.ringSilent ∧
      (holdBay on b s).ring.silenceTimer = s.ring.silenceTimer ∧ (holdBay on b s).ring.portB = s.ring.portB ∧
      (holdBay on b s).nodes = s.nodes ∧ (holdBay on b s).delivery.tagCounter = s.delivery.tagCounter ∧
      (holdBay on b s).delivery.proxy = s.delivery.proxy ∧ (holdBay on b s).delivery.noTake = s.delivery.noTake ∧
      (holdBay on b s).air = s.air ∧ (holdBay on b s).fans = s.fans ∧ (holdBay on b s).guide.bays = s.guide.bays ∧
      (holdBay on b s).guide.clusterFault = s.guide.clusterFault ∧ (holdBay on b s).light = s.light ∧
      (holdBay on b s).faults = s.faults ∧ (holdBay on b s).fire = s.fire ∧ (holdBay on b s).mgmt = s.mgmt ∧
      (holdBay on b s).tables.control = s.tables.control ∧ (holdBay on b s).tables.zones = s.tables.zones ∧
      (holdBay on b s).tables.gasSensors = s.tables.gasSensors ∧ (holdBay on b s).tables.fans = s.tables.fans ∧
      (holdBay on b s).tables.clusters = s.tables.clusters ∧ (holdBay on b s).tables.rows = s.tables.rows ∧
      (holdBay on b s).tables.levels = s.tables.levels ∧ (holdBay on b s).tables.lanes = s.tables.lanes ∧
      (holdBay on b s).tables.signs = s.tables.signs ∧ (holdBay on b s).tables.groups = s.tables.groups ∧
      (holdBay on b s).tables.responses = s.tables.responses ∧ (holdBay on b s).store = s.store := by
  simp only [holdBay]
  repeat' split
  all_goals simp

/-- What `holdBays` leaves as it is. -/
@[simp] theorem holdBays_frame (on : Bool) (l : List Nat) (s : State) :
    (forList l (holdBay on) s).pending = s.pending ∧ (forList l (holdBay on) s).clock = s.clock ∧
      (forList l (holdBay on) s).epoch = s.epoch ∧ (forList l (holdBay on) s).draws = s.draws ∧
      (forList l (holdBay on) s).phase = s.phase ∧ (forList l (holdBay on) s).ring.ownAddress = s.ring.ownAddress ∧
      (forList l (holdBay on) s).ring.rate = s.ring.rate ∧
      (forList l (holdBay on) s).ring.relayQueue = s.ring.relayQueue ∧
      (forList l (holdBay on) s).ring.runCount = s.ring.runCount ∧
      (forList l (holdBay on) s).ring.relayed = s.ring.relayed ∧
      (forList l (holdBay on) s).ring.badCheck = s.ring.badCheck ∧
      (forList l (holdBay on) s).ring.hopExpiry = s.ring.hopExpiry ∧
      (forList l (holdBay on) s).ring.relayFull = s.ring.relayFull ∧
      (forList l (holdBay on) s).ring.ringSilent = s.ring.ringSilent ∧
      (forList l (holdBay on) s).ring.silenceTimer = s.ring.silenceTimer ∧
      (forList l (holdBay on) s).ring.portB = s.ring.portB ∧ (forList l (holdBay on) s).nodes = s.nodes ∧
      (forList l (holdBay on) s).delivery.tagCounter = s.delivery.tagCounter ∧
      (forList l (holdBay on) s).delivery.proxy = s.delivery.proxy ∧
      (forList l (holdBay on) s).delivery.noTake = s.delivery.noTake ∧ (forList l (holdBay on) s).air = s.air ∧
      (forList l (holdBay on) s).fans = s.fans ∧ (forList l (holdBay on) s).guide.bays = s.guide.bays ∧
      (forList l (holdBay on) s).guide.clusterFault = s.guide.clusterFault ∧
      (forList l (holdBay on) s).light = s.light ∧ (forList l (holdBay on) s).faults = s.faults ∧
      (forList l (holdBay on) s).fire = s.fire ∧ (forList l (holdBay on) s).mgmt = s.mgmt ∧
      (forList l (holdBay on) s).tables.control = s.tables.control ∧
      (forList l (holdBay on) s).tables.zones = s.tables.zones ∧
      (forList l (holdBay on) s).tables.gasSensors = s.tables.gasSensors ∧
      (forList l (holdBay on) s).tables.fans = s.tables.fans ∧
      (forList l (holdBay on) s).tables.clusters = s.tables.clusters ∧
      (forList l (holdBay on) s).tables.rows = s.tables.rows ∧
      (forList l (holdBay on) s).tables.levels = s.tables.levels ∧
      (forList l (holdBay on) s).tables.lanes = s.tables.lanes ∧
      (forList l (holdBay on) s).tables.signs = s.tables.signs ∧
      (forList l (holdBay on) s).tables.groups = s.tables.groups ∧
      (forList l (holdBay on) s).tables.responses = s.tables.responses ∧
      (forList l (holdBay on) s).store = s.store := by
  refine forList_frame (R := fun a b =>
    b.pending = a.pending ∧ b.clock = a.clock ∧ b.epoch = a.epoch ∧ b.draws = a.draws ∧ b.phase = a.phase ∧
    b.ring.ownAddress = a.ring.ownAddress ∧ b.ring.rate = a.ring.rate ∧ b.ring.relayQueue = a.ring.relayQueue ∧
    b.ring.runCount = a.ring.runCount ∧ b.ring.relayed = a.ring.relayed ∧ b.ring.badCheck = a.ring.badCheck ∧
    b.ring.hopExpiry = a.ring.hopExpiry ∧ b.ring.relayFull = a.ring.relayFull ∧
    b.ring.ringSilent = a.ring.ringSilent ∧ b.ring.silenceTimer = a.ring.silenceTimer ∧
    b.ring.portB = a.ring.portB ∧ b.nodes = a.nodes ∧ b.delivery.tagCounter = a.delivery.tagCounter ∧
    b.delivery.proxy = a.delivery.proxy ∧ b.delivery.noTake = a.delivery.noTake ∧ b.air = a.air ∧ b.fans = a.fans ∧
    b.guide.bays = a.guide.bays ∧ b.guide.clusterFault = a.guide.clusterFault ∧ b.light = a.light ∧
    b.faults = a.faults ∧ b.fire = a.fire ∧ b.mgmt = a.mgmt ∧ b.tables.control = a.tables.control ∧
    b.tables.zones = a.tables.zones ∧ b.tables.gasSensors = a.tables.gasSensors ∧ b.tables.fans = a.tables.fans ∧
    b.tables.clusters = a.tables.clusters ∧ b.tables.rows = a.tables.rows ∧ b.tables.levels = a.tables.levels ∧
    b.tables.lanes = a.tables.lanes ∧ b.tables.signs = a.tables.signs ∧ b.tables.groups = a.tables.groups ∧
    b.tables.responses = a.tables.responses ∧ b.store = a.store) ?_ ?_ ?_ l s
  · intro t; simp
  · intro a b c h1 h2; simp_all
  · intro i t; simp

/-- What `doHoldBays` leaves as it is. -/
@[simp] theorem doHoldBays_frame (first count held : Nat) (r : Request) (s : State) :
    (doHoldBays first count held r s).pending = s.pending ∧ (doHoldBays first count held r s).clock = s.clock ∧
      (doHoldBays first count held r s).epoch = s.epoch ∧ (doHoldBays first count held r s).draws = s.draws ∧
      (doHoldBays first count held r s).phase = s.phase ∧
      (doHoldBays first count held r s).ring.ownAddress = s.ring.ownAddress ∧
      (doHoldBays first count held r s).ring.rate = s.ring.rate ∧
      (doHoldBays first count held r s).ring.relayQueue = s.ring.relayQueue ∧
      (doHoldBays first count held r s).ring.runCount = s.ring.runCount ∧
      (doHoldBays first count held r s).ring.relayed = s.ring.relayed ∧
      (doHoldBays first count held r s).ring.badCheck = s.ring.badCheck ∧
      (doHoldBays first count held r s).ring.hopExpiry = s.ring.hopExpiry ∧
      (doHoldBays first count held r s).ring.relayFull = s.ring.relayFull ∧
      (doHoldBays first count held r s).ring.ringSilent = s.ring.ringSilent ∧
      (doHoldBays first count held r s).ring.silenceTimer = s.ring.silenceTimer ∧
      (doHoldBays first count held r s).ring.portB = s.ring.portB ∧
      (doHoldBays first count held r s).nodes = s.nodes ∧
      (doHoldBays first count held r s).delivery.tagCounter = s.delivery.tagCounter ∧
      (doHoldBays first count held r s).delivery.proxy = s.delivery.proxy ∧
      (doHoldBays first count held r s).delivery.noTake = s.delivery.noTake ∧
      (doHoldBays first count held r s).air = s.air ∧ (doHoldBays first count held r s).fans = s.fans ∧
      (doHoldBays first count held r s).guide.bays = s.guide.bays ∧
      (doHoldBays first count held r s).guide.clusterFault = s.guide.clusterFault ∧
      (doHoldBays first count held r s).light = s.light ∧ (doHoldBays first count held r s).faults = s.faults ∧
      (doHoldBays first count held r s).fire = s.fire ∧ (doHoldBays first count held r s).mgmt.queue = s.mgmt.queue ∧
      (doHoldBays first count held r s).mgmt.cursor = s.mgmt.cursor ∧
      (doHoldBays first count held r s).mgmt.storeSender = s.mgmt.storeSender ∧
      (doHoldBays first count held r s).mgmt.proxySender = s.mgmt.proxySender ∧
      (doHoldBays first count held r s).mgmt.restartPending = s.mgmt.restartPending ∧
      (doHoldBays first count held r s).tables.control = s.tables.control ∧
      (doHoldBays first count held r s).tables.zones = s.tables.zones ∧
      (doHoldBays first count held r s).tables.gasSensors = s.tables.gasSensors ∧
      (doHoldBays first count held r s).tables.fans = s.tables.fans ∧
      (doHoldBays first count held r s).tables.clusters = s.tables.clusters ∧
      (doHoldBays first count held r s).tables.rows = s.tables.rows ∧
      (doHoldBays first count held r s).tables.levels = s.tables.levels ∧
      (doHoldBays first count held r s).tables.lanes = s.tables.lanes ∧
      (doHoldBays first count held r s).tables.signs = s.tables.signs ∧
      (doHoldBays first count held r s).tables.groups = s.tables.groups ∧
      (doHoldBays first count held r s).tables.responses = s.tables.responses ∧
      (doHoldBays first count held r s).store = s.store := by
  simp only [doHoldBays]
  repeat' split
  all_goals simp

/-- What `doFireOn` leaves as it is. -/
@[simp] theorem doFireOn_frame (r : Request) (s : State) :
    (doFireOn r s).pending = s.pending ∧ (doFireOn r s).clock = s.clock ∧ (doFireOn r s).epoch = s.epoch ∧
      (doFireOn r s).phase = s.phase ∧ (doFireOn r s).ring.ownAddress = s.ring.ownAddress ∧
      (doFireOn r s).ring.rate = s.ring.rate ∧ (doFireOn r s).ring.relayQueue = s.ring.relayQueue ∧
      (doFireOn r s).ring.runCount = s.ring.runCount ∧ (doFireOn r s).ring.relayed = s.ring.relayed ∧
      (doFireOn r s).ring.badCheck = s.ring.badCheck ∧ (doFireOn r s).ring.hopExpiry = s.ring.hopExpiry ∧
      (doFireOn r s).ring.relayFull = s.ring.relayFull ∧ (doFireOn r s).ring.ringSilent = s.ring.ringSilent ∧
      (doFireOn r s).ring.silenceTimer = s.ring.silenceTimer ∧ (doFireOn r s).ring.portB = s.ring.portB ∧
      (doFireOn r s).nodes = s.nodes ∧ (doFireOn r s).delivery.tagCounter = s.delivery.tagCounter ∧
      (doFireOn r s).delivery.noTake = s.delivery.noTake ∧ (doFireOn r s).air = s.air ∧
      (doFireOn r s).guide.bays = s.guide.bays ∧ (doFireOn r s).guide.rowFree = s.guide.rowFree ∧
      (doFireOn r s).guide.clusterFault = s.guide.clusterFault ∧ (doFireOn r s).light.stepTimer = s.light.stepTimer ∧
      (doFireOn r s).faults.gasHigh = s.faults.gasHigh ∧ (doFireOn r s).faults.shortfall = s.faults.shortfall ∧
      (doFireOn r s).faults.noticeNumber = s.faults.noticeNumber ∧ (doFireOn r s).fire.plan = s.fire.plan ∧
      (doFireOn r s).fire.planLock = s.fire.planLock ∧ (doFireOn r s).fire.fireIn = s.fire.fireIn ∧
      (doFireOn r s).fire.fireHeld = s.fire.fireHeld ∧ (doFireOn r s).fire.keysw = s.fire.keysw ∧
      (doFireOn r s).mgmt.queue = s.mgmt.queue ∧ (doFireOn r s).mgmt.cursor = s.mgmt.cursor ∧
      (doFireOn r s).mgmt.storeSender = s.mgmt.storeSender ∧ (doFireOn r s).mgmt.proxySender = s.mgmt.proxySender ∧
      (doFireOn r s).mgmt.restartPending = s.mgmt.restartPending ∧ (doFireOn r s).tables = s.tables ∧
      (doFireOn r s).store = s.store := by
  simp [doFireOn]

/-- What `doFireOff` leaves as it is. -/
@[simp] theorem doFireOff_frame (r : Request) (s : State) :
    (doFireOff r s).pending = s.pending ∧ (doFireOff r s).clock = s.clock ∧ (doFireOff r s).epoch = s.epoch ∧
      (doFireOff r s).phase = s.phase ∧ (doFireOff r s).ring.ownAddress = s.ring.ownAddress ∧
      (doFireOff r s).ring.rate = s.ring.rate ∧ (doFireOff r s).ring.relayQueue = s.ring.relayQueue ∧
      (doFireOff r s).ring.runCount = s.ring.runCount ∧ (doFireOff r s).ring.relayed = s.ring.relayed ∧
      (doFireOff r s).ring.badCheck = s.ring.badCheck ∧ (doFireOff r s).ring.hopExpiry = s.ring.hopExpiry ∧
      (doFireOff r s).ring.relayFull = s.ring.relayFull ∧ (doFireOff r s).ring.ringSilent = s.ring.ringSilent ∧
      (doFireOff r s).ring.silenceTimer = s.ring.silenceTimer ∧ (doFireOff r s).ring.portB = s.ring.portB ∧
      (doFireOff r s).nodes = s.nodes ∧ (doFireOff r s).delivery.tagCounter = s.delivery.tagCounter ∧
      (doFireOff r s).delivery.noTake = s.delivery.noTake ∧ (doFireOff r s).air = s.air ∧
      (doFireOff r s).guide.bays = s.guide.bays ∧ (doFireOff r s).guide.rowFree = s.guide.rowFree ∧
      (doFireOff r s).guide.clusterFault = s.guide.clusterFault ∧
      (doFireOff r s).light.stepTimer = s.light.stepTimer ∧ (doFireOff r s).faults.flags = s.faults.flags ∧
      (doFireOff r s).faults.alert = s.faults.alert ∧ (doFireOff r s).faults.gasHigh = s.faults.gasHigh ∧
      (doFireOff r s).faults.shortfall = s.faults.shortfall ∧ (doFireOff r s).faults.risen = s.faults.risen ∧
      (doFireOff r s).faults.noticeNumber = s.faults.noticeNumber ∧ (doFireOff r s).fire.plan = s.fire.plan ∧
      (doFireOff r s).fire.planLock = s.fire.planLock ∧ (doFireOff r s).fire.fireIn = s.fire.fireIn ∧
      (doFireOff r s).fire.fireHeld = s.fire.fireHeld ∧ (doFireOff r s).fire.keysw = s.fire.keysw ∧
      (doFireOff r s).mgmt.queue = s.mgmt.queue ∧ (doFireOff r s).mgmt.cursor = s.mgmt.cursor ∧
      (doFireOff r s).mgmt.storeSender = s.mgmt.storeSender ∧ (doFireOff r s).mgmt.proxySender = s.mgmt.proxySender ∧
      (doFireOff r s).mgmt.restartPending = s.mgmt.restartPending ∧ (doFireOff r s).tables = s.tables ∧
      (doFireOff r s).store = s.store := by
  simp only [doFireOff]
  repeat' split
  all_goals simp

/-- What `startAsk` leaves as it is. -/
@[simp] theorem startAsk_frame (p : Proxy) (r : Request) (s : State) :
    (startAsk p r s).pending = s.pending ∧ (startAsk p r s).clock = s.clock ∧ (startAsk p r s).epoch = s.epoch ∧
      (startAsk p r s).draws = s.draws ∧ (startAsk p r s).phase = s.phase ∧
      (startAsk p r s).ring.ownAddress = s.ring.ownAddress ∧ (startAsk p r s).ring.rate = s.ring.rate ∧
      (startAsk p r s).ring.relayQueue = s.ring.relayQueue ∧ (startAsk p r s).ring.runCount = s.ring.runCount ∧
      (startAsk p r s).ring.relayed = s.ring.relayed ∧ (startAsk p r s).ring.badCheck = s.ring.badCheck ∧
      (startAsk p r s).ring.hopExpiry = s.ring.hopExpiry ∧ (startAsk p r s).ring.relayFull = s.ring.relayFull ∧
      (startAsk p r s).ring.ringSilent = s.ring.ringSilent ∧
      (startAsk p r s).ring.silenceTimer = s.ring.silenceTimer ∧ (startAsk p r s).ring.portB = s.ring.portB ∧
      (startAsk p r s).nodes = s.nodes ∧ (startAsk p r s).delivery.fans = s.delivery.fans ∧
      (startAsk p r s).delivery.groups = s.delivery.groups ∧ (startAsk p r s).delivery.signs = s.delivery.signs ∧
      (startAsk p r s).delivery.tagCounter = s.delivery.tagCounter ∧
      (startAsk p r s).delivery.noTake = s.delivery.noTake ∧ (startAsk p r s).air = s.air ∧
      (startAsk p r s).fans = s.fans ∧ (startAsk p r s).guide = s.guide ∧ (startAsk p r s).light = s.light ∧
      (startAsk p r s).faults = s.faults ∧ (startAsk p r s).fire = s.fire ∧
      (startAsk p r s).mgmt.queue = s.mgmt.queue ∧ (startAsk p r s).mgmt.outgoing = s.mgmt.outgoing ∧
      (startAsk p r s).mgmt.cursor = s.mgmt.cursor ∧ (startAsk p r s).mgmt.storeSender = s.mgmt.storeSender ∧
      (startAsk p r s).mgmt.restartPending = s.mgmt.restartPending ∧ (startAsk p r s).tables = s.tables ∧
      (startAsk p r s).store = s.store := by
  simp only [startAsk]
  repeat' split
  all_goals simp

/-- What `doAskNode` leaves as it is. -/
@[simp] theorem doAskNode_frame (target op id value : Nat) (r : Request) (s : State) :
    (doAskNode target op id value r s).pending = s.pending ∧ (doAskNode target op id value r s).clock = s.clock ∧
      (doAskNode target op id value r s).epoch = s.epoch ∧ (doAskNode target op id value r s).draws = s.draws ∧
      (doAskNode target op id value r s).phase = s.phase ∧
      (doAskNode target op id value r s).ring.ownAddress = s.ring.ownAddress ∧
      (doAskNode target op id value r s).ring.rate = s.ring.rate ∧
      (doAskNode target op id value r s).ring.relayQueue = s.ring.relayQueue ∧
      (doAskNode target op id value r s).ring.runCount = s.ring.runCount ∧
      (doAskNode target op id value r s).ring.relayed = s.ring.relayed ∧
      (doAskNode target op id value r s).ring.badCheck = s.ring.badCheck ∧
      (doAskNode target op id value r s).ring.hopExpiry = s.ring.hopExpiry ∧
      (doAskNode target op id value r s).ring.relayFull = s.ring.relayFull ∧
      (doAskNode target op id value r s).ring.ringSilent = s.ring.ringSilent ∧
      (doAskNode target op id value r s).ring.silenceTimer = s.ring.silenceTimer ∧
      (doAskNode target op id value r s).ring.portB = s.ring.portB ∧
      (doAskNode target op id value r s).nodes = s.nodes ∧
      (doAskNode target op id value r s).delivery.fans = s.delivery.fans ∧
      (doAskNode target op id value r s).delivery.groups = s.delivery.groups ∧
      (doAskNode target op id value r s).delivery.signs = s.delivery.signs ∧
      (doAskNode target op id value r s).delivery.tagCounter = s.delivery.tagCounter ∧
      (doAskNode target op id value r s).delivery.noTake = s.delivery.noTake ∧
      (doAskNode target op id value r s).air = s.air ∧ (doAskNode target op id value r s).fans = s.fans ∧
      (doAskNode target op id value r s).guide = s.guide ∧ (doAskNode target op id value r s).light = s.light ∧
      (doAskNode target op id value r s).faults = s.faults ∧ (doAskNode target op id value r s).fire = s.fire ∧
      (doAskNode target op id value r s).mgmt.queue = s.mgmt.queue ∧
      (doAskNode target op id value r s).mgmt.cursor = s.mgmt.cursor ∧
      (doAskNode target op id value r s).mgmt.storeSender = s.mgmt.storeSender ∧
      (doAskNode target op id value r s).mgmt.restartPending = s.mgmt.restartPending ∧
      (doAskNode target op id value r s).tables = s.tables ∧ (doAskNode target op id value r s).store = s.store := by
  simp only [doAskNode]
  repeat' split
  all_goals simp

/-- What `doRestart` leaves as it is. -/
@[simp] theorem doRestart_frame (r : Request) (s : State) :
    (doRestart r s).pending = s.pending ∧ (doRestart r s).clock = s.clock ∧ (doRestart r s).draws = s.draws ∧
      (doRestart r s).fire.latch = s.fire.latch ∧ (doRestart r s).fire.plan = s.fire.plan ∧
      (doRestart r s).fire.planLock = s.fire.planLock ∧ (doRestart r s).fire.fireIn = s.fire.fireIn ∧
      (doRestart r s).fire.keysw = s.fire.keysw ∧ (doRestart r s).tables = s.tables ∧
      (doRestart r s).store.settingsArea = s.store.settingsArea ∧
      (doRestart r s).store.planArea = s.store.planArea := by
  simp only [doRestart]
  repeat' split
  all_goals simp

end Sys2Proof.Machine
end

