-- ==== Sys2Proof/Laws/State.lean ====
section
/-! SUPPORT. Laws/State.lean: places of a vector after an update, and the field that each named update of the state
writes. What an operation leaves as it is stands in the Frames files. -/

namespace Sys2Proof.Machine

/-! ## Places of a vector -/

/-- The written place reads as written. -/
@[simp] theorem getAt_setAt_self {α : Type} {n : Nat} [Inhabited α] (v : Vector α n) (i : Nat) (a : α) (h : i < n) :
    getAt (setAt v i a) i = a := by simp [getAt, setAt, h]

/-- Every other place reads as before. -/
@[simp] theorem getAt_setAt_ne {α : Type} {n : Nat} [Inhabited α] (v : Vector α n) (i j : Nat) (a : α) (h : i ≠ j) :
    getAt (setAt v i a) j = getAt v j := by simp [getAt, setAt, h]

/-- A place that does not exist is not written. -/
theorem setAt_outside {α : Type} {n : Nat} (v : Vector α n) (i : Nat) (a : α) (h : n ≤ i) : setAt v i a = v := by
  ext j hj
  simp [setAt, show i ≠ j by omega]

/-- Writing a place with what it holds changes nothing. -/
@[simp] theorem setAt_getAt {α : Type} {n : Nat} [Inhabited α] (v : Vector α n) (i : Nat) : setAt v i (getAt v i) = v := by
  by_cases h : i < n
  · ext j hj
    by_cases e : i = j
    · subst e; simp [setAt, getAt, h]
    · simp [setAt, e]
  · exact setAt_outside v i _ (by omega)

/-- The changed place. -/
@[simp] theorem getAt_modAt_self {α : Type} {n : Nat} [Inhabited α] (v : Vector α n) (i : Nat) (f : α → α) (h : i < n) :
    getAt (modAt v i f) i = f (getAt v i) := getAt_setAt_self v i _ h

/-- Every other place after a change. -/
@[simp] theorem getAt_modAt_ne {α : Type} {n : Nat} [Inhabited α] (v : Vector α n) (i j : Nat) (f : α → α) (h : i ≠ j) :
    getAt (modAt v i f) j = getAt v j := getAt_setAt_ne v i j _ h

/-- A place of a vector given place by place. -/
@[simp] theorem getAt_ofFn {α : Type} {n : Nat} [Inhabited α] (f : Fin n → α) (i : Nat) (h : i < n) :
    getAt (Vector.ofFn f) i = f ⟨i, h⟩ := by simp [getAt, h]

/-- A place of a uniform vector. -/
@[simp] theorem getAt_replicate {α : Type} {n : Nat} [Inhabited α] (a : α) (i : Nat) (h : i < n) :
    getAt (Vector.replicate n a) i = a := by simp [getAt, h]

/-- Two vectors that read alike at every place are equal. -/
theorem eq_of_getAt {α : Type} {n : Nat} [Inhabited α] {v w : Vector α n} (h : ∀ i, i < n → getAt v i = getAt w i) :
    v = w := by
  ext i hi
  simpa [getAt, hi] using h i hi

/-! ## Delivery records -/

/-- The replaced record reads as written. -/
theorem record_setRecord_self (s : State) (a : Actuator) (r : DeliveryRecord)
    (h : match a with | .fan i => i < 48 | .group i => i < 96 | .sign i => i < 48) : (s.setRecord a r).record a = r := by
  cases a <;> simp_all [State.record, State.setRecord, Delivery.record, Delivery.setRecord]

/-- Every other record reads as before. -/
@[simp] theorem record_setRecord_ne (s : State) (a b : Actuator) (r : DeliveryRecord) (h : a ≠ b) :
    (s.setRecord a r).record b = s.record b := by
  cases a <;> cases b <;> simp_all [State.record, State.setRecord, Delivery.record, Delivery.setRecord]

/-- Writing a record with what it holds changes nothing. -/
@[simp] theorem setRecord_record (s : State) (a : Actuator) : s.setRecord a (s.record a) = s := by
  cases a <;> simp [State.record, State.setRecord, Delivery.record, Delivery.setRecord]

/-! ## The field each update writes -/

/-- A changed fan record. -/
@[simp] theorem modFan_fans (i : Nat) (f : FanRecord → FanRecord) (s : State) : (modFan i f s).fans = modAt s.fans i f := rfl

/-- A changed group record. -/
@[simp] theorem modGroup_groups (i : Nat) (f : GroupRecord → GroupRecord) (s : State) :
    (modGroup i f s).light.groups = modAt s.light.groups i f := rfl

/-- A changed bay record. -/
@[simp] theorem modBay_bays (b : Nat) (f : BayRecord → BayRecord) (s : State) :
    (modBay b f s).guide.bays = modAt s.guide.bays b f := rfl

/-- A changed level record. -/
@[simp] theorem modLevel_levels (l : Nat) (f : LevelRecord → LevelRecord) (s : State) :
    (modLevel l f s).guide.levels = modAt s.guide.levels l f := rfl

/-- A changed zone record. -/
@[simp] theorem modZone_zones (z : Nat) (f : ZoneRecord → ZoneRecord) (s : State) :
    (modZone z f s).air.zones = modAt s.air.zones z f := rfl

/-- A zone's traffic load after a vehicle event. -/
@[simp] theorem addLoad_zones (z n : Nat) (s : State) :
    (addLoad z n s).air.zones = modAt s.air.zones z fun r => { r with load := min loadTop (r.load + n) } := rfl

/-- A changed node record. -/
@[simp] theorem modNode_nodes (a : Nat) (f : NodeRecord → NodeRecord) (s : State) :
    (modNode a f s).nodes = modAt s.nodes a f := rfl

/-- The replaced fault list. -/
@[simp] theorem setList_list (l : List FaultRecord) (s : State) : (setList l s).faults.list = l := rfl

/-- The changed tables. -/
@[simp] theorem modTables_tables (f : Settings → Settings) (s : State) : (modTables f s).tables = f s.tables := rfl

/-- A written ACTUATOR_NO_TAKE mark. -/
@[simp] theorem setNoTake_noTake (a : Nat) (on : Bool) (s : State) :
    (setNoTake a on s).delivery.noTake = setAt s.delivery.noTake a on := rfl

/-- The claims list with one claim more. -/
@[simp] theorem claim_claims (c : Claim) (s : State) : (claim c s).ring.claims = s.ring.claims ++ [c] := rfl

/-- The insertion queue with one frame more. -/
@[simp] theorem enter_insertion (d : Draft) (s : State) :
    (enter d s).ring.insertion = insertFrame ⟨d, s.ring.nextEntry⟩ s.ring.insertion := rfl

/-- The next time of entry after an entry. -/
@[simp] theorem enter_nextEntry (d : Draft) (s : State) : (enter d s).ring.nextEntry = s.ring.nextEntry + 1 := rfl

/-- The judged ALERT line. -/
@[simp] theorem judgeAlert_alert (s : State) : (judgeAlert s).faults.alert = anyEnabledFlag s := rfl

/-- A timer started now runs for so many ticks from the clock. -/
@[simp] theorem startTimer_eq (s : State) (n : Nat) : startTimer s n = some (s.clock + n) := rfl

end Sys2Proof.Machine
end

