-- ==== Sys2Proof/Laws/Ops.lean ====
section
/-! SUPPORT. Laws/Ops.lean: for each shared operation, once, everything it can do. Proofs cite these instead of unfolding the
operation. -/

namespace Sys2Proof.Machine

/-! ## Timers -/

/-- A timer is due exactly when it has expired. -/
theorem dueAt_iff {s : State} {t : Timer} : dueAt s.clock t = true ↔ Expired s t := by
  cases t <;> simp [dueAt, Expired]

/-- A timer that is due. -/
theorem Expired.due {s : State} {t : Timer} (h : Expired s t) : dueAt s.clock t = true := dueAt_iff.2 h

/-- A timer that is due runs. -/
theorem Expired.isSome {s : State} {t : Timer} (h : Expired s t) : t.isSome = true := by
  obtain ⟨e, rfl, _⟩ := h; rfl

/-! ## One place of a walk over all places -/

/-- What only step `j` of a walk changes reads, after the walk, as step `j` left it. -/
theorem forEach_at {α : Type} (o : State → α) (f : Nat → State → State) (j : Nat) (other : ∀ i t, i ≠ j → o (f i t) = o t) :
    ∀ (n : Nat) (s : State), j < n → ∃ t, o t = o s ∧ o (forEach n f s) = o (f j t)
  | 0, _, h => absurd h (Nat.not_lt_zero j)
  | n + 1, s, h => by
    rw [forEach_succ]
    by_cases e : n = j
    · subst e
      refine ⟨forEach n f s, ?_, rfl⟩
      exact forEach_holds_lt n (P := fun t => o t = o s) (fun i t hi ht => (other i t (by omega)).trans ht) s rfl
    · obtain ⟨t, h₁, h₂⟩ := forEach_at o f j other n s (by omega)
      exact ⟨t, h₁, (other n _ e).trans h₂⟩

/-- What no step of a walk changes reads after it as before. -/
theorem forEach_reads {α : Type} (o : State → α) (f : Nat → State → State) (n : Nat) (s : State)
    (same : ∀ i t, i < n → o (f i t) = o t) : o (forEach n f s) = o s :=
  forEach_holds_lt n (P := fun t => o t = o s) (fun i t hi ht => (same i t hi).trans ht) s rfl

/-! ## The insertion queue and the claims (R10, R11) -/

/-- A frame put at its place is one frame more. -/
@[simp] theorem insertFrame_length (f : QFrame) (q : List QFrame) : (insertFrame f q).length = q.length + 1 := by
  induction q with
  | nil => rfl
  | cons g q ih => simp only [insertFrame]; split <;> simp [ih]

/-- The frames after a frame is put at its place. -/
theorem insertFrame_perm (f : QFrame) (q : List QFrame) : (insertFrame f q).Perm (f :: q) := by
  induction q with
  | nil => rfl
  | cons g q ih =>
    simp only [insertFrame]; split
    · rfl
    · exact (ih.cons g).trans (.swap f g q)

/-- The members after a frame is put at its place. -/
@[simp] theorem mem_insertFrame (f g : QFrame) (q : List QFrame) : g ∈ insertFrame f q ↔ g = f ∨ g ∈ q :=
  (insertFrame_perm f q).mem_iff.trans (by simp)

/-- Room is fewer than 24 frames and no claim. -/
theorem hasRoom_iff (s : State) : hasRoom s = true ↔ s.ring.insertion.length < 24 ∧ s.ring.claims = [] := by
  rw [hasRoom, Bool.and_eq_true, List.isEmpty_iff, insertionCapacity]
  exact and_congr_left' decide_eq_true_iff

/-- An offer is accepted, or its claim waits. -/
theorem offer_cases (c : Claim) (d : Draft) (s : State) :
    (hasRoom s = true ∧ offer c d s = enter d s) ∨ (hasRoom s = false ∧ offer c d s = claim c s) := by
  unfold offer; cases hasRoom s <;> simp

/-- A record that offers a frame has none to offer and rests, is queued, or waits for room. -/
theorem offerRecord_cases (a : Actuator) (s : State) :
    (claimedDraft s a = none ∧ offerRecord a s = s.setRecord a { s.record a with state := .idle })
      ∨ (∃ d, claimedDraft s a = some d ∧ hasRoom s = true
          ∧ offerRecord a s = enter d (s.setRecord a { s.record a with state := .queued }))
      ∨ (∃ d, claimedDraft s a = some d ∧ hasRoom s = false
          ∧ offerRecord a s = claim (.record a) (s.setRecord a { s.record a with state := .waitingRoom })) := by
  unfold offerRecord
  cases claimedDraft s a <;> cases h : hasRoom s <;> simp

/-- A record has a frame to offer exactly with a desired setting and a node address. -/
theorem claimedDraft_eq_some (s : State) (a : Actuator) (d : Draft) :
    claimedDraft s a = some d ↔ ∃ x, (s.record a).desired = some x ∧ actuatorAddress s.tables a ≠ 0 ∧ d = recordDraft s a x := by
  unfold claimedDraft
  cases (s.record a).desired with
  | none => simp
  | some x => by_cases h : actuatorAddress s.tables a = 0 <;> simp [h, eq_comm]

/-- What withdrawing a desired setting does, by the record's state. -/
theorem withdraw_cases (a : Actuator) (s : State) :
    let r := { s.record a with desired := none }
    ((r.state = .idle ∨ r.state = .inFlight) ∧ withdraw a s = s.setRecord a r)
      ∨ (r.state = .resendWait ∧ withdraw a s = s.setRecord a { r with state := .idle, attempts := 0, resendTimer := none })
      ∨ (r.state = .waitingRoom ∧ withdraw a s =
          { s.setRecord a { r with state := .idle } with
            ring := { s.ring with claims := s.ring.claims.filter (· ≠ Claim.record a) } })
      ∨ (r.state = .queued ∧ withdraw a s = giveRoom
          { s.setRecord a { r with state := .idle } with
            ring := { s.ring with insertion := s.ring.insertion.filter fun g => !g.isCommandOf a } }) := by
  unfold withdraw
  dsimp only
  split
  · exact .inr (.inr (.inr ⟨‹_›, rfl⟩))
  · exact .inr (.inr (.inl ⟨‹_›, rfl⟩))
  · exact .inr (.inl ⟨‹_›, rfl⟩)
  · exact .inl ⟨.inr ‹_›, rfl⟩
  · exact .inl ⟨.inl ‹_›, rfl⟩

/-- Room is given only while the queue is not full, and only to a claim. -/
theorem giveRoom_cases (s : State) :
    (24 ≤ s.ring.insertion.length ∧ giveRoom s = s)
      ∨ (s.ring.insertion.length < 24 ∧ giveRoom s = giveRoomTo s.ring.claims s) := by
  unfold giveRoom insertionCapacity
  by_cases h : s.ring.insertion.length < 24
  · exact .inr ⟨h, if_pos h⟩
  · exact .inl ⟨by omega, if_neg h⟩

/-- A reply joins the outgoing list, or is offered. -/
theorem sendReply_cases (r : Reply) (s : State) :
    ((s.mgmt.outgoing ≠ [] ∨ s.delivery.proxy.state = .waitingRoom)
        ∧ sendReply r s = { s with mgmt := { s.mgmt with outgoing := s.mgmt.outgoing ++ [r] } })
      ∨ (s.mgmt.outgoing = [] ∧ s.delivery.proxy.state ≠ .waitingRoom ∧ sendReply r s = offerOutgoing [r] s) := by
  unfold sendReply
  by_cases h : s.mgmt.outgoing ≠ [] ∨ s.delivery.proxy.state = .waitingRoom
  · exact .inl ⟨h, if_pos h⟩
  · exact .inr ⟨by simpa using not_or.1 h |>.1, (not_or.1 h).2, if_neg h⟩

/-! ## Flags and faults (R137, R143, R146) -/

/-- The codes of the flags tell them apart. -/
theorem flagCode_injective {f g : Flag} (h : flagCode f = flagCode g) : f = g := by
  cases f <;> cases g <;> first | rfl | simp [flagCode] at h

/-- Every flag has a place. -/
theorem flagCode_lt (f : Flag) : flagCode f < 10 := by cases f <;> decide

/-- A pending notice is left as it is, or is built, or claims. -/
theorem offerNotice_cases (s : State) :
    (s.faults.notice ≠ .none ∧ offerNotice s = s)
      ∨ (s.faults.notice = .none ∧ hasRoom s = true
          ∧ offerNotice s = enter (noticeDraft s) { s with faults := { s.faults with notice := .queued } })
      ∨ (s.faults.notice = .none ∧ hasRoom s = false
          ∧ offerNotice s = claim .notice { s with faults := { s.faults with notice := .waitingRoom } }) := by
  unfold offerNotice
  cases h : s.faults.notice <;> cases hr : hasRoom s <;> simp

/-- A flag already set is left; one that rises is set, noticed if it is enabled, and ALERT is judged. -/
theorem raiseFlag_cases (f : Flag) (s : State) :
    let t := { s with faults := { s.faults with flags := setAt s.faults.flags (flagCode f) true } }
    (flagSet s f = true ∧ raiseFlag f s = s)
      ∨ (flagSet s f = false ∧ flagEnabled s f = true ∧ raiseFlag f s = judgeAlert (noticeRise f t))
      ∨ (flagSet s f = false ∧ flagEnabled s f = false ∧ raiseFlag f s = judgeAlert t) := by
  have e : flagEnabled { s with faults := { s.faults with flags := setAt s.faults.flags (flagCode f) true } } f
      = flagEnabled s f := rfl
  unfold raiseFlag
  cases h : flagSet s f <;> cases hn : flagEnabled s f <;> simp [e, hn]

/-- A record handed back is the pair's, and stands in the list. -/
theorem findRecord_some {s : State} {c : FaultClass} {addr : Nat} {r : FaultRecord} (h : findRecord s c addr = some r) :
    r ∈ s.faults.list ∧ r.cls = c ∧ r.addr = addr := by
  have h₁ := List.find?_some h
  have h₂ := List.mem_of_find?_eq_some h
  simp [FaultRecord.isOf] at h₁
  exact ⟨h₂, h₁⟩

/-- A presence is ignored, creates a record, finds an ACTIVE one, or is recorded; the address is judged last. -/
theorem presence_cases (c : FaultClass) (addr : Nat) (s : State) :
    ((modeOf s c = .ignore ∨ ∃ r, findRecord s c addr = some r ∧ r.state = .active) ∧ presence c addr s = judgeAddress addr s)
      ∨ (modeOf s c ≠ .ignore ∧ findRecord s c addr = none
          ∧ presence c addr s = judgeAddress addr (createRecord c addr (modeOf s c) s))
      ∨ (modeOf s c ≠ .ignore ∧ ∃ r, findRecord s c addr = some r ∧ r.state ≠ .active
          ∧ presence c addr s = judgeAddress addr (recordPresence r (modeOf s c) s)) := by
  unfold presence
  dsimp only
  by_cases h : modeOf s c = .ignore
  · exact .inl ⟨.inl h, by rw [if_pos h]⟩
  · rw [if_neg h]
    cases hf : findRecord s c addr with
    | none => exact .inr (.inl ⟨h, rfl, rfl⟩)
    | some r =>
      dsimp only
      by_cases ha : r.state = .active
      · exact .inl ⟨.inr ⟨r, rfl, ha⟩, by rw [if_pos ha]⟩
      · exact .inr (.inr ⟨h, r, rfl, ha, by rw [if_neg ha]⟩)

/-- The judgement of an address changes nothing, or is a change of service of the fan, group or sign there. -/
theorem judgeAddress_cases (addr : Nat) (s : State) :
    judgeAddress addr s = s
      ∨ (∃ i, (getAt s.nodes addr).equipment = some (.fan, i)
          ∧ judgeAddress addr s = fanService i (serviceOf s (fanAddress s i)) s)
      ∨ (∃ i, (getAt s.nodes addr).equipment = some (.luminaire, i)
          ∧ judgeAddress addr s = groupService i (decide (serviceOf s (groupEntry s i).addr ≠ .inService)) s)
      ∨ (∃ i, (getAt s.nodes addr).equipment = some (.sign, i)
          ∧ judgeAddress addr s = signService i (decide (serviceOf s (getAt s.tables.signs i).addr ≠ .inService)) s) := by
  unfold judgeAddress
  cases h : (getAt s.nodes addr).equipment with
  | none => exact .inl rfl
  | some p =>
    obtain ⟨k, i⟩ := p
    cases k with
    | gas => exact .inl rfl
    | bay => exact .inl rfl
    | lane => exact .inl rfl
    | fan =>
      simp only [judgeEquipment]
      split
      · exact .inl rfl
      · exact .inr (.inl ⟨i, rfl, rfl⟩)
    | luminaire =>
      simp only [judgeEquipment]
      split
      · exact .inl rfl
      · exact .inr (.inr (.inl ⟨i, rfl, rfl⟩))
    | sign =>
      simp only [judgeEquipment]
      split
      · exact .inl rfl
      · exact .inr (.inr (.inr ⟨i, rfl, rfl⟩))

/-! ## Fans and the plan (R82, R83, R154) -/

/-- A fan is under the plan when it is held, or when fire mode is active and its plan entry is not LEAVE. -/
theorem underPlan_iff (s : State) (i : Nat) :
    underPlan s i = true ↔ (fan s i).held = true ∨ (s.fire.latch = true ∧ (getAt s.fire.plan i).action ≠ .leave) := by
  simp [underPlan, planHolds]

/-- A change of a fan's service state: the tests of a fan that goes out are cleared, and the action or the manual setting is
applied only outside the plan. -/
theorem fanService_cases (i : Nat) (new : Service) (s : State) :
    let t := modFan i (fun r => { r with service := new }) s
    (∃ a, new = .out a ∧
        let u := if (fan s i).service = .inService then clearTests (fanAddress t i) i t else t
        fanService i new s = if underPlan s i = true then u else applyAction i a u)
      ∨ (new = .inService ∧ fanService i new s =
          if underPlan s i = false ∧ (fan s i).manualMode = true then setFan i (fan s i).manual t else t) := by
  cases new with
  | out a => exact .inl ⟨a, rfl, rfl⟩
  | inService => refine .inr ⟨rfl, ?_⟩; simp [fanService]

/-! ## The proxy access and the store areas (R175, R177) -/

@[simp] theorem answeredValue_write {p : Proxy} (h : p.op = 2) (payload : List Byte) :
    answeredValue p payload = b16 p.value := by simp [answeredValue, h]

@[simp] theorem answeredValue_read {p : Proxy} (h : p.op ≠ 2) (payload : List Byte) :
    answeredValue p payload = (payload.drop 2).take 2 := by simp [answeredValue, h]

@[simp] theorem judged_true {α : Type} (a : Area α) : a.judged true = a := rfl
@[simp] theorem judged_false {α : Type} (a : Area α) : a.judged false = .bad := rfl
@[simp] theorem areasRead_phase (s : State) : (areasRead s).phase = s.phase := rfl
@[simp] theorem areasRead_fire (s : State) : (areasRead s).fire = s.fire := rfl
@[simp] theorem areasRead_engine (s : State) : (areasRead s).store.engine = s.store.engine := rfl
@[simp] theorem areasRead_draws (s : State) : (areasRead s).draws = s.draws + 1 := rfl

/-! ## Signs (R113, R115) -/

/-- A sign's computed setting is stored as equal or pending, or is sent. -/
theorem offerSign_cases (i : Nat) (x : SignSetting) (s : State) :
    let r := getAt s.guide.signs i
    let keep (p : Bool) : State :=
      { s with guide := { s.guide with signs := setAt s.guide.signs i { r with computed := x, pending := p } } }
    (r.lastSent = some x ∧ offerSign i x s = keep false)
      ∨ (r.lastSent ≠ some x ∧ (r.timer.isSome = true ∨ (r.out = true ∧ s.fire.latch = false)) ∧ offerSign i x s = keep true)
      ∨ (r.lastSent ≠ some x ∧ r.timer = none ∧ (r.out = false ∨ s.fire.latch = true) ∧ offerSign i x s = sendSign i x s) := by
  dsimp only
  unfold offerSign
  dsimp only
  by_cases h : (getAt s.guide.signs i).lastSent = some x
  · exact .inl ⟨h, if_pos h⟩
  · rw [if_neg h]
    cases ht : (getAt s.guide.signs i).timer <;> cases ho : (getAt s.guide.signs i).out <;> cases hl : s.fire.latch <;>
      simp [h]

/-! ## Requests (R162) -/

/-- A request that may be served can be served. -/
theorem HeadRequest.canServe {s : State} {r : Request} {rest : List Request} {q : Req} (h : HeadRequest s r rest q) :
    canServe s = true := by
  simp [Machine.canServe, Machine.running, h.running, h.outgoing, h.proxy, h.restart]

/-- The head request is served by what its kind asks for. -/
theorem serveHead_served {s : State} {r : Request} {rest : List Request} {q : Req} (h : HeadRequest s r rest q)
    (act : Request → Req → Option (State → State)) :
    serveHead act s = match act r q with | some f => f (withQueue rest s) | none => s := by
  unfold serveHead
  rw [if_pos h.canServe, h.queue]
  dsimp only
  rw [h.spells]
  rfl

/-- Serving leaves the state as it is, or serves the head. -/
theorem serveHead_cases (act : Request → Req → Option (State → State)) (s : State) :
    serveHead act s = s ∨ ∃ r rest f, canServe s = true ∧ s.mgmt.queue = r :: rest ∧ act r (parseRequest r.payload) = some f
      ∧ serveHead act s = f (withQueue rest s) := by
  unfold serveHead
  by_cases h : canServe s = true
  · rw [if_pos h]
    cases hq : s.mgmt.queue with
    | nil => exact .inl rfl
    | cons r rest =>
      dsimp only
      cases ha : act r (parseRequest r.payload) with
      | none => exact .inl rfl
      | some f => exact .inr ⟨r, rest, f, h, rfl, ha, rfl⟩
  · exact .inl (if_neg h)

/-! ## Ticks -/

/-- A tick moves the clock on, or puts one event that is due into the queue. -/
theorem tick_cases (s : State) :
    (internalDue s = [] ∧ tick s = { s with clock := s.clock + 1 })
      ∨ ∃ c ∈ internalDue s, tick s = { s with pending := [c], draws := s.draws + 1 } := by
  unfold tick
  cases h : internalDue s with
  | nil => exact .inl ⟨rfl, rfl⟩
  | cons c cs =>
    refine .inr ⟨_, ?_, rfl⟩
    have hk : draw s (cs.length + 1) < (c :: cs).length := Nat.mod_lt _ (Nat.succ_pos _)
    rw [List.getD_eq_getElem?_getD, List.getElem?_eq_getElem hk]
    exact List.getElem_mem hk

end Sys2Proof.Machine
end

