-- ==== Sys2Proof/Laws/PerInstr.lean ====
section
/-! SUPPORT. Laws/PerInstr.lean: the family OperandsChecked, said of every command: the check of well-formedness accepts a
command exactly when its operands lie in the manual's ranges. -/

namespace Sys2Proof

/-- The actuator's index is one of its table's entries (R38). -/
def Actuator.inTable : Actuator → Prop
  | .fan i => i < 48
  | .group i => i < 96
  | .sign i => i < 48

namespace Laws.OperandsChecked

/-- The ranges of a command's operands, as propositions: strap values (R3), node addresses (R21), entry indexes (R38, R164)
and levels (R105). -/
def InRange : Instr → Prop
  | .powerOn rate addr => rate < 4 ∧ addr < 16
  | .resetActive => True
  | .resetRelease addr => addr < 16
  | .loadingComplete => True
  | .frameReceived _ _ => True
  | .frameSent => True
  | .arbiterDecision => True
  | .ringSilenceExpiry => True
  | .nodeSilenceExpiry addr => 1 ≤ addr ∧ addr ≤ 223
  | .returnTimerExpiry a => a.inTable
  | .resendTimerExpiry a => a.inTable
  | .proxyTimerExpiry => True
  | .evaluation => True
  | .fanDeglitchExpiry fan _ => fan < 48
  | .baySettleExpiry bay => bay < 2048
  | .transitTimeout level => level < 8
  | .signIntervalExpiry sign => sign < 48
  | .lightStep => True
  | .holdTimerExpiry group => group < 96
  | .lampTimerExpiry group => group < 96
  | .retryTimerExpiry _ addr => 1 ≤ addr ∧ addr ≤ 239
  | .fireInActive => True
  | .fireInInactive => True
  | .keyswChange _ => True
  | .startDelayExpiry fan => fan < 48
  | .aim => True
  | .put => True
  | .fetch => True
  | .keep => True
  | .stateZone => True
  | .stateLevel => True
  | .stateFan => True
  | .stateGroup => True
  | .stateSign => True
  | .stateSummary => True
  | .stateSummaryRaw => True
  | .stateRing => True
  | .ack => True
  | .clearFaults => True
  | .manual => True
  | .auto => True
  | .closeLevel => True
  | .openLevel => True
  | .holdBays => True
  | .fireOn => True
  | .fireOff => True
  | .lockPlan => True
  | .unlockPlan => True
  | .askNode => True
  | .restart => True
  | .unknownRequest => True
  | .restartEffect => True
  | .storeOperationComplete _ => True

/-- The command is well formed exactly when its operands lie in their ranges. -/
def Statement (i : Instr) : Prop := i.wellFormed = true ↔ InRange i

/-- The operands of `powerOn`. -/
theorem powerOn (rate addr : Nat) : Statement (.powerOn rate addr) := by
  simp [Statement, InRange, Instr.wellFormed]

/-- The operands of `resetActive`. -/
theorem resetActive : Statement .resetActive := ⟨fun _ => trivial, fun _ => rfl⟩

/-- The operands of `resetRelease`. -/
theorem resetRelease (addr : Nat) : Statement (.resetRelease addr) := by
  simp [Statement, InRange, Instr.wellFormed]

/-- The operands of `loadingComplete`. -/
theorem loadingComplete : Statement .loadingComplete := ⟨fun _ => trivial, fun _ => rfl⟩

/-- The operands of `frameReceived`. -/
theorem frameReceived (bytes : List Byte) (framingError : Bool) : Statement (.frameReceived bytes framingError) := by
  simp [Statement, InRange, Instr.wellFormed]

/-- The operands of `frameSent`. -/
theorem frameSent : Statement .frameSent := ⟨fun _ => trivial, fun _ => rfl⟩

/-- The operands of `arbiterDecision`. -/
theorem arbiterDecision : Statement .arbiterDecision := ⟨fun _ => trivial, fun _ => rfl⟩

/-- The operands of `ringSilenceExpiry`. -/
theorem ringSilenceExpiry : Statement .ringSilenceExpiry := ⟨fun _ => trivial, fun _ => rfl⟩

/-- The operands of `nodeSilenceExpiry`. -/
theorem nodeSilenceExpiry (addr : Nat) : Statement (.nodeSilenceExpiry addr) := by
  simp [Statement, InRange, Instr.wellFormed]

/-- The operands of `returnTimerExpiry`. -/
theorem returnTimerExpiry (a : Actuator) : Statement (.returnTimerExpiry a) := by
  cases a <;> simp [Statement, InRange, Actuator.inTable, Instr.wellFormed, Actuator.wellFormed]

/-- The operands of `resendTimerExpiry`. -/
theorem resendTimerExpiry (a : Actuator) : Statement (.resendTimerExpiry a) := by
  cases a <;> simp [Statement, InRange, Actuator.inTable, Instr.wellFormed, Actuator.wellFormed]

/-- The operands of `proxyTimerExpiry`. -/
theorem proxyTimerExpiry : Statement .proxyTimerExpiry := ⟨fun _ => trivial, fun _ => rfl⟩

/-- The operands of `evaluation`. -/
theorem evaluation : Statement .evaluation := ⟨fun _ => trivial, fun _ => rfl⟩

/-- The operands of `fanDeglitchExpiry`. -/
theorem fanDeglitchExpiry (fan : Nat) (test : FanTest) : Statement (.fanDeglitchExpiry fan test) := by
  simp [Statement, InRange, Instr.wellFormed]

/-- The operands of `baySettleExpiry`. -/
theorem baySettleExpiry (bay : Nat) : Statement (.baySettleExpiry bay) := by
  simp [Statement, InRange, Instr.wellFormed]

/-- The operands of `transitTimeout`. -/
theorem transitTimeout (level : Nat) : Statement (.transitTimeout level) := by
  simp [Statement, InRange, Instr.wellFormed]

/-- The operands of `signIntervalExpiry`. -/
theorem signIntervalExpiry (sign : Nat) : Statement (.signIntervalExpiry sign) := by
  simp [Statement, InRange, Instr.wellFormed]

/-- The operands of `lightStep`. -/
theorem lightStep : Statement .lightStep := ⟨fun _ => trivial, fun _ => rfl⟩

/-- The operands of `holdTimerExpiry`. -/
theorem holdTimerExpiry (group : Nat) : Statement (.holdTimerExpiry group) := by
  simp [Statement, InRange, Instr.wellFormed]

/-- The operands of `lampTimerExpiry`. -/
theorem lampTimerExpiry (group : Nat) : Statement (.lampTimerExpiry group) := by
  simp [Statement, InRange, Instr.wellFormed]

/-- The operands of `retryTimerExpiry`. -/
theorem retryTimerExpiry (cls : FaultClass) (addr : Nat) : Statement (.retryTimerExpiry cls addr) := by
  simp [Statement, InRange, Instr.wellFormed]

/-- The operands of `fireInActive`. -/
theorem fireInActive : Statement .fireInActive := ⟨fun _ => trivial, fun _ => rfl⟩

/-- The operands of `fireInInactive`. -/
theorem fireInInactive : Statement .fireInInactive := ⟨fun _ => trivial, fun _ => rfl⟩

/-- The operands of `keyswChange`. -/
theorem keyswChange (active : Bool) : Statement (.keyswChange active) := by
  simp [Statement, InRange, Instr.wellFormed]

/-- The operands of `startDelayExpiry`. -/
theorem startDelayExpiry (fan : Nat) : Statement (.startDelayExpiry fan) := by
  simp [Statement, InRange, Instr.wellFormed]

/-- The operands of `aim`. -/
theorem aim : Statement .aim := ⟨fun _ => trivial, fun _ => rfl⟩

/-- The operands of `put`. -/
theorem put : Statement .put := ⟨fun _ => trivial, fun _ => rfl⟩

/-- The operands of `fetch`. -/
theorem fetch : Statement .fetch := ⟨fun _ => trivial, fun _ => rfl⟩

/-- The operands of `keep`. -/
theorem keep : Statement .keep := ⟨fun _ => trivial, fun _ => rfl⟩

/-- The operands of `stateZone`. -/
theorem stateZone : Statement .stateZone := ⟨fun _ => trivial, fun _ => rfl⟩

/-- The operands of `stateLevel`. -/
theorem stateLevel : Statement .stateLevel := ⟨fun _ => trivial, fun _ => rfl⟩

/-- The operands of `stateFan`. -/
theorem stateFan : Statement .stateFan := ⟨fun _ => trivial, fun _ => rfl⟩

/-- The operands of `stateGroup`. -/
theorem stateGroup : Statement .stateGroup := ⟨fun _ => trivial, fun _ => rfl⟩

/-- The operands of `stateSign`. -/
theorem stateSign : Statement .stateSign := ⟨fun _ => trivial, fun _ => rfl⟩

/-- The operands of `stateSummary`. -/
theorem stateSummary : Statement .stateSummary := ⟨fun _ => trivial, fun _ => rfl⟩

/-- The operands of `stateSummaryRaw`. -/
theorem stateSummaryRaw : Statement .stateSummaryRaw := ⟨fun _ => trivial, fun _ => rfl⟩

/-- The operands of `stateRing`. -/
theorem stateRing : Statement .stateRing := ⟨fun _ => trivial, fun _ => rfl⟩

/-- The operands of `ack`. -/
theorem ack : Statement .ack := ⟨fun _ => trivial, fun _ => rfl⟩

/-- The operands of `clearFaults`. -/
theorem clearFaults : Statement .clearFaults := ⟨fun _ => trivial, fun _ => rfl⟩

/-- The operands of `manual`. -/
theorem manual : Statement .manual := ⟨fun _ => trivial, fun _ => rfl⟩

/-- The operands of `auto`. -/
theorem auto : Statement .auto := ⟨fun _ => trivial, fun _ => rfl⟩

/-- The operands of `closeLevel`. -/
theorem closeLevel : Statement .closeLevel := ⟨fun _ => trivial, fun _ => rfl⟩

/-- The operands of `openLevel`. -/
theorem openLevel : Statement .openLevel := ⟨fun _ => trivial, fun _ => rfl⟩

/-- The operands of `holdBays`. -/
theorem holdBays : Statement .holdBays := ⟨fun _ => trivial, fun _ => rfl⟩

/-- The operands of `fireOn`. -/
theorem fireOn : Statement .fireOn := ⟨fun _ => trivial, fun _ => rfl⟩

/-- The operands of `fireOff`. -/
theorem fireOff : Statement .fireOff := ⟨fun _ => trivial, fun _ => rfl⟩

/-- The operands of `lockPlan`. -/
theorem lockPlan : Statement .lockPlan := ⟨fun _ => trivial, fun _ => rfl⟩

/-- The operands of `unlockPlan`. -/
theorem unlockPlan : Statement .unlockPlan := ⟨fun _ => trivial, fun _ => rfl⟩

/-- The operands of `askNode`. -/
theorem askNode : Statement .askNode := ⟨fun _ => trivial, fun _ => rfl⟩

/-- The operands of `restart`. -/
theorem restart : Statement .restart := ⟨fun _ => trivial, fun _ => rfl⟩

/-- The operands of `unknownRequest`. -/
theorem unknownRequest : Statement .unknownRequest := ⟨fun _ => trivial, fun _ => rfl⟩

/-- The operands of `restartEffect`. -/
theorem restartEffect : Statement .restartEffect := ⟨fun _ => trivial, fun _ => rfl⟩

/-- The operands of `storeOperationComplete`. -/
theorem storeOperationComplete (readBackMatches : Bool) : Statement (.storeOperationComplete readBackMatches) := by
  simp [Statement, InRange, Instr.wellFormed]

end Laws.OperandsChecked

end Sys2Proof
end

