-- ==== Sys2Proof/Tests/Slice0.lean ====
section
/-! SUPPORT. Tests/Slice0.lean: small tests with the manual's own numbers, ill-formed commands, and for each statement of
Obligations.lean that has hypotheses a state and operands that meet them. -/

open Sys2Proof Sys2Proof.Machine

namespace Sys2Proof.Tests

-- One theorem after another: each of them asks the kernel, and too many threads waiting for it at once take too much memory.
set_option Elab.async false

/-! ## Well-formed commands: an ill-formed one for each check -/

theorem test_wf_power_rate : (Instr.powerOn 4 0).wellFormed = false ∧ (Instr.powerOn 3 15).wellFormed = true := by decide
theorem test_wf_power_addr : (Instr.powerOn 0 16).wellFormed = false := by decide
theorem test_wf_reset_addr : (Instr.resetRelease 16).wellFormed = false ∧ (Instr.resetRelease 15).wellFormed = true := by
  decide
theorem test_wf_node_low : (Instr.nodeSilenceExpiry 0).wellFormed = false ∧ (Instr.nodeSilenceExpiry 1).wellFormed = true :=
  by decide
theorem test_wf_node_high :
    (Instr.nodeSilenceExpiry 224).wellFormed = false ∧ (Instr.nodeSilenceExpiry 223).wellFormed = true := by decide
theorem test_wf_return_fan : (Instr.returnTimerExpiry (.fan 48)).wellFormed = false := by decide
theorem test_wf_return_group : (Instr.returnTimerExpiry (.group 96)).wellFormed = false := by decide
theorem test_wf_resend_sign : (Instr.resendTimerExpiry (.sign 48)).wellFormed = false := by decide
theorem test_wf_deglitch_fan : (Instr.fanDeglitchExpiry 48 .stall).wellFormed = false := by decide
theorem test_wf_bay : (Instr.baySettleExpiry 2048).wellFormed = false := by decide
theorem test_wf_level : (Instr.transitTimeout 8).wellFormed = false := by decide
theorem test_wf_sign : (Instr.signIntervalExpiry 48).wellFormed = false := by decide
theorem test_wf_hold : (Instr.holdTimerExpiry 96).wellFormed = false := by decide
theorem test_wf_lamp : (Instr.lampTimerExpiry 96).wellFormed = false := by decide
theorem test_wf_retry_low : (Instr.retryTimerExpiry .ringSilent 0).wellFormed = false := by decide
theorem test_wf_retry_high : (Instr.retryTimerExpiry .ringSilent 240).wellFormed = false := by decide
theorem test_wf_start : (Instr.startDelayExpiry 48).wellFormed = false := by decide

/-- The table gives no row any bits, so no word spells a command. -/
theorem test_no_word_spells : decodeTableWord 8 1 = none ∧ decodeTableWord 32 0 = none := by decide

/-! ## Numbers of the worked sequences -/

/-- 1.1: generator, preset, order and inversion together, on the nine characters 1 to 9 (the check value of this CRC). -/
theorem test_check_of_nine_digits :
    checkOf [0x31#8, 0x32#8, 0x33#8, 0x34#8, 0x35#8, 0x36#8, 0x37#8, 0x38#8, 0x39#8] = 0x29B1#16 := by decide +kernel

/-- 1.4: a frame of 14 bytes whose Length field is 5 is rejected, and so is one whose Hops is 0. -/
theorem test_frame_length_and_hops :
    checkFrame ((Frame.bytes ⟨255, 17, 1, 5, 0, 0, [1#8, 2#8, 3#8, 4#8, 5#8]⟩).set 6 4#8) false = none
      ∧ checkFrame (Frame.bytes ⟨255, 17, 1, 0, 0, 0, []⟩) false = none
      ∧ (checkFrame (Frame.bytes ⟨255, 17, 1, 5, 0, 0, []⟩) false).isSome = true := by decide +kernel

/-- 2.6: the lane counts of lane 5, a wrap and the jump limit among them. -/
theorem test_lane_pulses : pulses 32 250 253 = 3 ∧ pulses 32 253 2 = 5 ∧ pulses 32 40 120 = 32 ∧ pulses 32 30 31 = 1 := by
  decide +kernel

/-- 2.7: a reading above its range is clamped, 65535 is no reading, and status 1 is WARMING. -/
theorem test_gas_decoding :
    parseGas [5#8, 70#8, 0#8, 12#8, 0#8] = some ⟨some 1000, some 12, .ok⟩
      ∧ parseGas [255#8, 255#8, 255#8, 255#8, 1#8] = some ⟨none, none, .warming⟩ ∧ parseGas [0#8, 1#8, 0#8, 1#8] = none := by
  decide +kernel

/-- 4.11 to 4.13: the filter, its truncation toward zero and its step of at least 1. -/
theorem test_filter_steps :
    filterStep 3 (some 2252) (some 19) = some 2009 ∧ filterStep 3 (some 150) (some 9) = some 149
      ∧ filterStep 3 (some 320) (some 60) = some 400 ∧ filterStep 6 (some 320) (some 21) = some 321 := by decide +kernel

/-- 4.12: the parts of a sensor index, and the decay and traffic index of a load of 900. -/
theorem test_zone_three :
    indexPart 75 400 = 333 ∧ indexPart 30 160 = 333 ∧ indexPart 75 2252 = 1000 ∧ decayed defaultZone 900 = 830
      ∧ trafficIndex defaultZone 830 = 207 := by decide

/-- 4.14: up three stages at once, and down one when the dwell count has reached 3. -/
theorem test_stage_steps :
    nextStage defaultZone 720 .off 20 = (.high, 0) ∧ nextStage defaultZone 560 .high 2 = (.high, 3)
      ∧ nextStage defaultZone 540 .high 3 = (.mid, 0) ∧ nextStage defaultZone 460 .mid 1 = (.mid, 2)
      ∧ nextStage defaultZone 300 .mid 3 = (.low, 0) := by decide

/-- R81: from 90 toward 40 by steps of 20, and R78: below the minimum speed a fan stops only for a target of 0. -/
theorem test_ramp :
    rampSpeed defaultFan 40 90 = 70 ∧ rampSpeed defaultFan 40 70 = 50 ∧ rampSpeed defaultFan 0 30 = 0
      ∧ rampSpeed defaultFan 30 0 = 25 := by decide

/-- R77: no share, a share above the capacity, and a share rounded up to the next per cent. -/
theorem test_target_speed : targetSpeed 0 0 = (0, false) ∧ targetSpeed 1 0 = (100, true) ∧ targetSpeed 61 300 = (21, false) :=
  by decide

/-- R160, R162: a payload of the wrong length, and a PUT of fewer than 5 bytes, fit no request. -/
theorem test_requests_spelled :
    parseRequest [8#8, 13#8, 90#8, 1#8] = .manual 13 90 1 ∧ parseRequest [2#8, 1#8, 0#8, 3#8] = .unknown
      ∧ parseRequest [6#8, 2#8, 3#8] = .unknown ∧ parseRequest [19#8] = .unknown := by decide

/-- R168: a speed above 100 is clamped and marked, an action above 3 is bad, and a list of no sources is bad. -/
theorem test_entries_read :
    readPlan ([0#8, 120#8, 5#8], false) = some (⟨.runForward, 100, 5⟩, [], true)
      ∧ readPlan ([4#8, 50#8, 5#8], false) = none ∧ (readSign ([9#8, 0#8], false)).isNone = true := by decide

/-- 10.4: bytes of an entry of each table, and the two FAULTS entries that fit one FETCH. -/
theorem test_entry_sizes :
    ([1, 2, 3, 4, 5, 6, 7, 8, 11, 12].map fun t => (entryBytes t 0 State.reset).length) = [32, 2, 14, 4, 2, 2, 6, 7, 5, 6]
      ∧ ([0, 1, 2, 3, 4].map fun i => (entryBytes 0 i State.reset).length) = [16, 12 + 1, 20, 20, 20]
      ∧ fetchCount faultsTable State.reset 255 0 fetchRoom = 2 := by decide +kernel

/-- 9.3: the default plan runs every fan forward at 100 with no delay. -/
theorem test_default_plan : getAt State.reset.fire.plan 47 = ⟨.runForward, 100, 0⟩ := by decide +kernel

/-- 8.10: an OUT record at its retry limit is latched, and below it goes OUT again with one retry more. -/
theorem test_drive_trip_record :
    let r : FaultRecord := ⟨.fanDriveTrip, 62, .out, false, 2, 2, 100, 220, some 9, false⟩
    (recordAgain State.reset .retry r).state = .latched ∧ (recordAgain State.reset .retry { r with retries := 1 }).retries = 2 := by
  decide +kernel

/-- The tables of a part with one node of each kind, the last entry of each table. -/
def fittedTables : Settings :=
  { defaultSettings with
    gasSensors := setAt defaultSettings.gasSensors 63 ⟨220, 15⟩
    clusters := setAt defaultSettings.clusters 255 ⟨219, 2040, 8⟩
    lanes := setAt defaultSettings.lanes 31 { defaultLane with addr := 218, zone := 15, inLevel := some 7 }
    fans := setAt defaultSettings.fans 47 { defaultFan with addr := 223, zone := 15 }
    groups := setAt defaultSettings.groups 95 { defaultGroup with addr := 222, zone := 15, triggers := [.row 0] }
    signs := setAt defaultSettings.signs 47 { defaultSign with addr := 221 } }

/-- The node map of that part. -/
def fittedNodes : Vector NodeRecord 224 :=
  let put (a : Nat) (k : NodeKind) (i : Nat) (v : Vector NodeRecord 224) := setAt v a { freshNode with equipment := some (k, i) }
  put 218 .lane 31 (put 219 .bay 255 (put 220 .gas 63 (put 221 .sign 47 (put 222 .luminaire 95 (put 223 .fan 47
    (Vector.replicate 224 freshNode))))))

/-- That part running, 20 s after its start, with nothing under way; the light step, the evaluation and ring silence are due
at this very tick, and every sign shows FULL. -/
def calm : State :=
  { State.reset with
    phase := .running, clock := 1000000, tables := fittedTables, nodes := fittedNodes
    ring := { State.reset.ring with silenceTimer := some 1000000 }
    air := { freshAir with evaluationTimer := some 1000000 }
    light := { freshLight fittedTables.groups with stepTimer := some 1000000 }
    guide := { freshGuide with signs := Vector.replicate 48 { freshSign with lastSent := some ⟨.full, .none⟩ } } }

/-- A request of the panel with this payload. -/
def headOf (payload : List Nat) : Request := ⟨239, 5, payload.map b8⟩

/-- A state with one request, of this payload, in its request queue. -/
def asked (payload : List Nat) (s : State) : State := { s with mgmt := { s.mgmt with queue := [headOf payload] } }

/-- A request that can be served stands at the head of the queue. -/
theorem head (payload : List Nat) (s : State) (q : Req)
    (h : (canServe s && decide (parseRequest (payload.map b8) = q)) = true := by decide +kernel) :
    HeadRequest (asked payload s) (headOf payload) [] q := by
  simp [canServe, running] at h
  obtain ⟨⟨⟨⟨h₁, h₂⟩, h₃⟩, h₄⟩, h₅⟩ := h
  exact ⟨h₁, h₂, h₃, h₄, rfl, h₅⟩

/-- A timer that is due has expired. -/
theorem due {s : State} {t : Timer} (h : dueAt s.clock t = true) : Expired s t := by
  cases t with
  | none => simp [dueAt] at h
  | some e => exact ⟨e, rfl, by simpa [dueAt] using h⟩

/-- Whether the signs are up to date depends on four fields of the state. -/
theorem signs_same {s t : State} (h : SignsCurrent t) (h₁ : s.phase = t.phase) (h₂ : s.guide = t.guide)
    (h₃ : s.tables = t.tables) (h₄ : s.fire = t.fire) : SignsCurrent s := by
  cases s; cases t; simp at h₁ h₂ h₃ h₄; subst h₁ h₂ h₃ h₄; exact h

/-- Whether the free counts are exact depends on three fields of the state. -/
theorem counts_same {s t : State} (h : FreeCountsExact t) (h₁ : s.phase = t.phase) (h₂ : s.guide = t.guide)
    (h₃ : s.tables = t.tables) : FreeCountsExact s := by
  cases s; cases t; simp at h₁ h₂ h₃; subst h₁ h₂ h₃; exact h

theorem calm_signs : SignsCurrent calm := by
  intro _ i hi
  have : ∀ i, i < 48 → signSetting calm (getAt calm.tables.signs i) = ⟨.full, .none⟩ := by decide +kernel
  have g : getAt calm.guide.signs i = { freshSign with lastSent := some ⟨.full, .none⟩ } := getAt_replicate _ _ hi
  simp [SignCurrent, this i hi, g, freshSign]

/-- No bay is FREE, so every row counts none. -/
theorem no_free (t : Settings) (r : Nat) : countRow t freshGuide.bays r = 0 := by
  have h : ∀ p ∈ t.bays.toList.zip freshGuide.bays.toList, ¬ (bayCounts p.1 p.2 r = true) := by
    intro p hp
    have e : freshGuide.bays.toList = List.replicate 2048 freshBay := Vector.toList_replicate
    have h := (List.of_mem_zip (show (p.1, p.2) ∈ _ from hp)).2
    rw [e] at h
    simp [bayCounts, List.eq_of_mem_replicate h, freshBay]
  simp [countRow, List.filter_eq_nil_iff.2 h]

theorem calm_counts : FreeCountsExact calm := by
  refine ⟨fun r hr => ?_, ?_, fun h => absurd rfl h⟩
  · show _ = countRow fittedTables freshGuide.bays r
    rw [no_free]; simp [calm, freshGuide, hr]
  · have : ∀ l, l < 8 → (getAt calm.guide.levels l).free = countLevel calm.tables calm.guide.rowFree l := by decide +kernel
    exact this

theorem calm_groups : GroupStatesFollow calm := by
  have : ∀ i, i < 96 → (group calm i).state = (group calm i).stateByRule := by decide +kernel
  exact this

/-- The entries of `fittedTables` that name a node. -/
def named : List (NodeKind × Nat × Nat) :=
  [(.gas, 63, 220), (.bay, 255, 219), (.lane, 31, 218), (.fan, 47, 223), (.luminaire, 95, 222), (.sign, 47, 221)]

theorem fitted_entries : ∀ e ∈ allEquipment fittedTables, e.2.2 = 0 ∨ e ∈ named := by
  intro e he
  simp only [allEquipment, List.mem_append, List.mem_map, List.mem_range] at he
  obtain ((((⟨i, hi, rfl⟩ | ⟨i, hi, rfl⟩) | ⟨i, hi, rfl⟩) | ⟨i, hi, rfl⟩) | ⟨i, hi, rfl⟩) | ⟨i, hi, rfl⟩ := he
  · by_cases h : 63 = i
    · subst h; simp [named, equipmentAddress, fittedTables]
    · simp [equipmentAddress, fittedTables, defaultSettings, h, hi]
  · by_cases h : 255 = i
    · subst h; simp [named, equipmentAddress, fittedTables]
    · simp [equipmentAddress, fittedTables, defaultSettings, h, hi]
  · by_cases h : 31 = i
    · subst h; simp [named, equipmentAddress, fittedTables]
    · simp [equipmentAddress, fittedTables, defaultSettings, defaultLane, h, hi]
  · by_cases h : 47 = i
    · subst h; simp [named, equipmentAddress, fittedTables]
    · simp [equipmentAddress, fittedTables, defaultSettings, defaultFan, h, hi]
  · by_cases h : 95 = i
    · subst h; simp [named, equipmentAddress, fittedTables]
    · simp [equipmentAddress, fittedTables, defaultSettings, defaultGroup, h, hi]
  · by_cases h : 47 = i
    · subst h; simp [named, equipmentAddress, fittedTables]
    · simp [equipmentAddress, fittedTables, defaultSettings, defaultSign, h, hi]

theorem fitted_unique : UniqueAddresses fittedTables := by
  have g : ∀ e ∈ named, ∀ f ∈ named, e.2.2 = f.2.2 → e = f := by decide
  intro e he f hf h0 hef
  rcases fitted_entries e he with h | h
  · exact absurd h h0
  · rcases fitted_entries f hf with h' | h'
    · exact absurd (hef.trans h') h0
    · exact g e h f h' hef

theorem calm_nodes : NodeMapExact calm := by
  refine ⟨fitted_unique, ?_, ?_, fun _ a h₁ h₂ => ?_⟩
  · intro t h; cases h
  · intro t d h; cases h
  · have m : ∀ p ∈ named, (node calm p.2.2).equipment = some (p.1, p.2.1) := by decide +kernel
    have n : (∀ p ∈ named, p.2.2 ≠ a) → (node calm a).equipment = none := by
      intro h
      simp [named] at h
      simp [node, calm, fittedNodes, h, freshNode, show a < 224 by omega]
    show _ = equipmentAt fittedTables a
    have z : a ≠ 0 := by omega
    simp only [equipmentAt, z, if_false]
    cases hf : (allEquipment fittedTables).find? fun e => decide (e.2.2 = a) with
    | some e =>
      have e1 := List.find?_some hf
      have e2 := fitted_entries e (List.mem_of_find?_eq_some hf)
      simp only [decide_eq_true_eq] at e1
      subst e1
      simpa using m e (e2.resolve_left z)
    | none =>
      refine (n fun p hp hpa => ?_).trans rfl
      have hm : p ∈ allEquipment fittedTables := by
        simp only [named, List.mem_cons, List.not_mem_nil, or_false] at hp
        have listed (k : NodeKind) (n i x : Nat) (hi : i < n) (hx : equipmentAddress fittedTables k i = x) :
            (k, i, x) ∈ (List.range n).map fun i => (k, i, equipmentAddress fittedTables k i) :=
          List.mem_map.2 ⟨i, List.mem_range.2 hi, by rw [hx]⟩
        simp only [allEquipment, List.mem_append]
        rcases hp with rfl | rfl | rfl | rfl | rfl | rfl
        · exact .inl (.inl (.inl (.inl (.inl (listed .gas 64 63 220 (by decide) (by decide +kernel))))))
        · exact .inl (.inl (.inl (.inl (.inr (listed .bay 256 255 219 (by decide) (by decide +kernel))))))
        · exact .inl (.inl (.inl (.inr (listed .lane 32 31 218 (by decide) (by decide +kernel)))))
        · exact .inl (.inl (.inr (listed .fan 48 47 223 (by decide) (by decide +kernel))))
        · exact .inl (.inr (listed .luminaire 96 95 222 (by decide) (by decide +kernel)))
        · exact .inr (listed .sign 48 47 221 (by decide) (by decide +kernel))
      simpa [hpa] using List.find?_eq_none.1 hf p hm

theorem fresh_record (a : Actuator) : freshDelivery.record a = freshDeliveryRecord := by
  cases a <;> simp [Delivery.record, freshDelivery, getAt, Vector.getElem?_replicate] <;> split <;> rfl

theorem calm_delivery : DeliveryAgrees calm := by
  have h (a : Actuator) : calm.record a = freshDeliveryRecord := fresh_record a
  exact ⟨fun a => by rw [h a]; rfl, fun a => by rw [h a]; rfl, fun a => by rw [h a]; decide, fun h => absurd rfl h⟩

theorem calm_ordered : QueueOrdered calm := by
  refine ⟨List.Pairwise.nil, List.nodup_nil, by simp [calm, State.reset, freshRing]⟩

theorem calm_capacities : WithinCapacities calm := by
  unfold WithinCapacities; decide +kernel

/-- Whether the capacities hold depends on three fields of the state. -/
theorem capacities_same {s t : State} (h : WithinCapacities t) (h₁ : s.ring = t.ring) (h₂ : s.mgmt = t.mgmt)
    (h₃ : s.guide = t.guide) : WithinCapacities s := by
  cases s; cases t; simp at h₁ h₂ h₃; subst h₁ h₂ h₃; exact h

theorem calm_replies : RepliesBounded calm := by
  unfold RepliesBounded; decide +kernel

theorem calm_faults : FaultListHolds calm ∧ AlertExact calm ∧ PlanLockHolds calm := by
  refine ⟨⟨by decide +kernel, by decide +kernel, by simp [calm, State.reset, freshFaults]⟩, ?_, ?_, ?_⟩
  · unfold AlertExact; decide +kernel
  · intro _ h; cases h
  · intro op d h; cases h

/-- Frames for the witnesses: destination, source, kind, hops, tag, mark, payload. -/
def fr (dest source kind hops tag mark : Nat) (payload : List Nat) : Frame :=
  ⟨dest, source, kind, hops, tag, mark, payload.map b8⟩

/-- `calm` held by RESET. -/
def heldState : State := { calm with phase := .held }

/-- A queue of so many replies waiting. -/
def replies (n : Nat) : List QFrame := (List.range n).map fun k => ⟨⟨false, 239, 0, .reply []⟩, k⟩

/-- `calm` with so many replies in the insertion queue. -/
def crowded (n : Nat) : State := { calm with ring := { calm.ring with insertion := replies n, nextEntry := n } }

/-! ## The machine as a whole -/

theorem witness_StepRunsFront :
    ({ calm with pending := [.evaluation, .lightStep] } : State).pending = .evaluation :: [.lightStep]
      ∧ (calm.pending = [] ∧ EventDue calm .lightStep)
      ∧ heldState.pending = [] ∧ ∀ c, ¬ EventDue heldState c := by
  refine ⟨rfl, ⟨rfl, rfl, due (by decide)⟩, rfl, fun c => ?_⟩
  have h : heldState.phase = .held := rfl
  have g (r rest q) : ¬ HeadRequest heldState r rest q := fun x => nomatch h.symm.trans x.running
  cases c <;> simp [EventDue, h, g, portBIdle]

theorem witness_EveryCommandIsTaken :
    (∀ rate addr, Instr.evaluation ≠ .powerOn rate addr) ∧ ∀ addr, Instr.evaluation ≠ .resetRelease addr := by simp

theorem witness_NotReadyNothingDone :
    (heldState.phase = .held ∧ heldState.ring.portB = .resting ∧ startsPart .evaluation = false)
      ∧ servesRequest .aim = true ∧ heldState.phase ≠ .running
      ∧ ({ calm with mgmt := { calm.mgmt with outgoing := [⟨239, 5, []⟩] } } : State).mgmt.outgoing ≠ []
      ∧ ({ calm with delivery := { calm.delivery with proxy := { freshProxy with state := .waitingRoom } } } :
          State).delivery.proxy.state = .waitingRoom
      ∧ ({ calm with mgmt := { calm.mgmt with restartPending := true } } : State).mgmt.restartPending = true
      ∧ calm.mgmt.queue = [] := by decide +kernel

theorem witness_PowerAndResetStart :
    (15 < 16 ∧ 3 < 4) ∧ heldState.phase = .held ∧ calm.phase ≠ .held
      ∧ ({ calm with store := { calm.store with engine := .busy (.keep fittedTables) 1200000 } } : State).store.engine
          ≠ .idle := by decide +kernel

theorem witness_LoadingCompletes : State.reset.phase = .loading false (200 * millisecond)
    ∧ ({ State.reset with fire := { freshFire with fireIn := true } } : State).fire.fireIn = true
    ∧ State.reset.store.settingsArea = .bad
    ∧ ({ State.reset with store := ⟨.good fittedTables, .good ⟨defaultPlan, true⟩, .idle⟩ } : State).store.settingsArea
        = .good fittedTables := ⟨rfl, rfl, rfl, rfl⟩

/-- `calm` loading after power-on, with good areas, a kept record of the fan and a sign that has been sent nothing. -/
def loadingFitted : State :=
  { calm with
    phase := .loading false 1000000, store := ⟨.good fittedTables, .good ⟨defaultPlan, true⟩, .idle⟩
    guide := freshGuide
    faults := { calm.faults with list := [⟨.fanNoLoad, 223, .latched, false, 0, 1, 0, 0, none, false⟩] } }

/-- The latch of the start clear and set, a sign and the service states as loading finds them, and a fan held out with STOP
by the tables of the area. -/
theorem witness_LoadingCompletes_actions :
    loadingFitted.phase = .loading false 1000000 ∧ NodeMapExact loadingFitted
      ∧ loadingFitted.fire.fireHeld = false ∧ loadingFitted.fire.fireIn = false
      ∧ (getAt loadingFitted.guide.signs 47).lastSent = none ∧ (getAt loadingFitted.guide.signs 47).timer = none
      ∧ serviceOf { loadingFitted with tables := fittedTables } 221 = .inService
      ∧ serviceOf { loadingFitted with tables := fittedTables } 223 = .out .stop
      ∧ ({ loadingFitted with fire := { loadingFitted.fire with fireHeld := true } } : State).fire.fireHeld = true := by
  refine ⟨rfl, ⟨fitted_unique, ?_, ?_, fun h => by cases h⟩, by decide +kernel⟩
  · intro t h; cases h; exact fitted_unique
  · intro t d h; cases h

/-! ## The ring interface -/

theorem witness_FrameBytesRoundTrip :
    FrameInRange (fr 255 239 5 255 255 2 (List.replicate 48 7)) ∧ FrameInRange (fr 1 1 1 1 0 0 [])
      ∧ checkFrame (fr 1 1 1 1 0 0 []).bytes false = some (fr 1 1 1 1 0 0 []) := by
  refine ⟨?_, ?_, by decide +kernel⟩ <;> constructor <;> decide

theorem witness_BadFrameIsCounted : heldState.phase = .held ∧ calm.phase ≠ .held ∧ checkFrame [0#8] false = none := by
  decide +kernel

theorem witness_GoodFrameRestartsSilence :
    calm.phase ≠ .held ∧ SignsCurrent calm ∧ calm.ring.ownAddress = 224
      ∧ checkFrame (fr 240 224 2 9 0 0 []).bytes false = some (fr 240 224 2 9 0 0 [])
      ∧ checkFrame (fr 224 17 1 9 0 0 []).bytes false = some (fr 224 17 1 9 0 0 [])
      ∧ checkFrame (fr 239 224 2 9 0 1 []).bytes false = some (fr 239 224 2 9 0 1 [])
      ∧ (∀ a, recordMatches calm 239 0 a = false) ∧ proxyMatches calm 239 0 = false
      ∧ ({ calm with ring := { calm.ring with ringSilent := true } } : State).ring.ringSilent = true := by
  refine ⟨by decide, calm_signs, by decide, by decide +kernel, by decide +kernel, by decide +kernel, fun a => ?_, by decide, rfl⟩
  have h : calm.record a = freshDeliveryRecord := fresh_record a
  simp [recordMatches, h, freshDeliveryRecord]

theorem witness_PassingFrameIsRelayed :
    calm.phase ≠ .held ∧ SignsCurrent calm
      ∧ checkFrame (fr 255 223 2 1 0 0 []).bytes false = some (fr 255 223 2 1 0 0 [])
      ∧ checkFrame (fr 255 223 2 2 0 0 []).bytes false = some (fr 255 223 2 2 0 0 [])
      ∧ calm.ring.ownAddress ≠ 223 ∧ calm.ring.ownAddress ≠ 255 ∧ calm.ring.relayQueue.length < 8
      ∧ 8 ≤ ({ calm with ring := { calm.ring with relayQueue := List.replicate 8 [] } } : State).ring.relayQueue.length := by
  refine ⟨by decide, calm_signs, ?_⟩; decide +kernel

theorem witness_ReportIsHeard :
    calm.phase = .running ∧ SignsCurrent calm
      ∧ checkFrame (fr 255 220 1 9 0 0 [0, 1, 0, 1, 0]).bytes false = some (fr 255 220 1 9 0 0 [0, 1, 0, 1, 0])
      ∧ (node calm 220).equipment = some (.gas, 63) ∧ Readable .gas (fr 255 220 1 9 0 0 [0, 1, 0, 1, 0]).payload = true
      ∧ (node calm 223).equipment = some (.fan, 47) ∧ Readable .fan [] = false
      ∧ (node calm 1).equipment = none
      ∧ checkFrame (fr 255 225 1 9 0 0 []).bytes false = some (fr 255 225 1 9 0 0 [])
      ∧ (node { calm with nodes := setAt calm.nodes 220 { getAt calm.nodes 220 with liveness := .silent } } 220).liveness
          = .silent := by
  refine ⟨by decide, calm_signs, ?_⟩; decide +kernel

/-- A report of these bytes from a node of the state passes. -/
def Passes (s : State) (a : Nat) (payload : List Nat) (k : NodeKind) (i : Nat) : Prop :=
  PassingReport s (fr 255 a 1 9 0 0 payload).bytes false (fr 255 a 1 9 0 0 payload) k i

theorem passing {s : State} {a : Nat} {payload : List Nat} {k : NodeKind} {i : Nat}
    (h : (running s && decide ((checkFrame (fr 255 a 1 9 0 0 payload).bytes false) = some (fr 255 a 1 9 0 0 payload))
      && decide (a ≤ 223) && decide (s.ring.ownAddress = 224) && decide ((node s a).equipment = some (k, i))) = true := by
        decide +kernel) : Passes s a payload k i := by
  simp [running] at h
  obtain ⟨⟨⟨⟨h₁, h₂⟩, h₃⟩, h₄⟩, h₅⟩ := h
  exact ⟨h₁, h₂, by simp [fr, h₄]; omega, rfl, h₃, h₅⟩

theorem witness_RequestArrives :
    calm.phase ≠ .held ∧ SignsCurrent calm ∧ calm.ring.ownAddress = 224
      ∧ checkFrame (fr 224 239 3 9 5 0 [4]).bytes false = some (fr 224 239 3 9 5 0 [4])
      ∧ checkFrame (fr 224 238 3 9 5 0 [4]).bytes false = some (fr 224 238 3 9 5 0 [4])
      ∧ State.reset.phase ≠ .running ∧ 238 ∉ calm.tables.control.managers ∧ 239 ∈ calm.tables.control.managers
      ∧ hasRoom calm = true ∧ hasRoom (crowded 24) = false ∧ calm.mgmt.queue.length < 4
      ∧ 4 ≤ ({ calm with mgmt := { calm.mgmt with queue := List.replicate 4 ⟨239, 5, []⟩ } } : State).mgmt.queue.length := by
  refine ⟨by decide, calm_signs, ?_⟩; decide +kernel

/-- `calm` sending a frame until a tick. -/
def sendingUntil (e : Nat) : State := { calm with ring := { calm.ring with portB := .sending [] true e } }

theorem witness_FrameSentBeginsGap :
    (sendingUntil 1000000).ring.portB = .sending [] true 1000000 ∧ 1000000 ≤ (sendingUntil 1000000).clock
      ∧ (sendingUntil 1000001).clock < 1000001 := by decide +kernel

theorem witness_ArbiterDecides :
    portBIdle (sendingUntil 1000000) = false ∧ portBIdle calm = true
      ∧ portBIdle { calm with ring := { calm.ring with portB := .gap 1000000 } } = true
      ∧ (crowded 1).ring.relayQueue = [] ∧ (crowded 1).ring.insertion = ⟨⟨false, 239, 0, .reply []⟩, 0⟩ :: []
      ∧ ({ crowded 1 with ring := { (crowded 1).ring with relayQueue := [[1#8]], runCount := 4 } } : State).ring.relayQueue
          = [1#8] :: []
      ∧ ({ crowded 1 with ring := { (crowded 1).ring with relayQueue := [[1#8]], runCount := 3 } } : State).ring.runCount < 4 := by
  decide +kernel

/-- 3.2 and 3.8: the bytes of a fan setting, of a sign number and of a sign that shows no number, and the kind and tag of a notice. -/
theorem test_command_bytes :
    (finishedFrame calm ⟨false, 57, 0, .command (.fan 7) (.fan ⟨60, .forward⟩)⟩).payload = [0#8, 1#8, 60#8, 0#8]
      ∧ settingPayload (.sign ⟨.number 300, .left⟩) = [0#8, 3#8, 0#8, 1#8, 44#8, 1#8]
      ∧ settingPayload (.sign ⟨.exit, .downRamp⟩) = [0#8, 3#8, 3#8, 0#8, 0#8, 5#8]
      ∧ (finishedFrame calm ⟨true, 239, 7, .notice⟩).kind = 5 ∧ (finishedFrame calm ⟨true, 239, 7, .notice⟩).tag = 7 := by
  decide +kernel

/-- `calm` with one frame in the insertion queue. -/
def offered (body : FrameBody) : State :=
  { calm with ring := { calm.ring with insertion := [⟨⟨true, 223, 0, body⟩, 0⟩], nextEntry := 1 } }

theorem witness_OwnFrameStarts :
    ∀ body ∈ [FrameBody.command (.fan 47) (.fan ⟨100, .forward⟩), .proxy 1 16 0, .notice, .reply [], .groupFull 254],
      portBIdle (offered body) = true ∧ (offered body).ring.insertion = ⟨⟨true, 223, 0, body⟩, 0⟩ :: []
        ∧ (offered body).ring.relayQueue = [] ∧ (offered body).ring.claims = [] := by decide +kernel

/-- `calm` with one claim waiting for a place that is free, and two replies. -/
def waiting (c : Claim) : State :=
  let r := { freshDeliveryRecord with desired := some ⟨.fan ⟨40, .forward⟩, false⟩, state := .waitingRoom }
  { calm with
    ring := { calm.ring with claims := [c] }
    delivery := { calm.delivery with fans := setAt calm.delivery.fans 47 r }
    mgmt := { calm.mgmt with outgoing := [⟨239, 5, []⟩, ⟨239, 6, []⟩] } }

/-- Each kind of claim at the head of the list, a record without a setting among them, and a queue that is full. -/
theorem witness_OwnFrameStarts_claims :
    (∀ c ∈ [Claim.record (.fan 47), .record (.fan 0), .reply, .proxy, .notice, .group 254],
        (waiting c).ring.insertion.length < 24 ∧ (waiting c).ring.claims = c :: [])
      ∧ ((waiting .reply).record (.fan 47)).desired = some ⟨.fan ⟨40, .forward⟩, false⟩
      ∧ actuatorAddress calm.tables (.fan 47) ≠ 0 ∧ ((waiting .reply).record (.fan 0)).desired = none
      ∧ (waiting .reply).mgmt.outgoing = ⟨239, 5, []⟩ :: [⟨239, 6, []⟩]
      ∧ (calm.ring.claims = [] ∧ 24 ≤ (crowded 24).ring.insertion.length) := by decide +kernel

/-! ## Command delivery -/

/-- A delivery record with a desired setting, in a state. -/
def inState (st : DeliveryState) : DeliveryRecord :=
  { freshDeliveryRecord with
    desired := some ⟨.fan ⟨40, .forward⟩, false⟩, state := st
    inFlight := if st = .inFlight then some ⟨.fan ⟨40, .forward⟩, 9, 223⟩ else none
    returnTimer := if st = .inFlight then some 1000000 else none
    resendTimer := if st = .resendWait then some 1000000 else none }

/-- A state with the delivery record of fan 47 in a state. -/
def withRecord (r : DeliveryRecord) (s : State) : State := s.setRecord (.fan 47) r

theorem record_self (r : DeliveryRecord) (s : State) : (withRecord r s).record (.fan 47) = r :=
  record_setRecord_self s (.fan 47) r (by decide)

/-- Queue and records agree where only fan 47's record has left IDLE. -/
theorem agrees (r : DeliveryRecord) (s : State) (h : s.delivery = freshDelivery)
    (hq : ∀ a, s.ring.insertion.countP (QFrame.isCommandOf a) = if a = .fan 47 ∧ r.state = .queued then 1 else 0)
    (hc : ∀ a, s.ring.claims.count (.record a) = if a = .fan 47 ∧ r.state = .waitingRoom then 1 else 0)
    (hr : (r.inFlight.isSome = true ↔ r.state = .inFlight) ∧ (r.returnTimer.isSome = true ↔ r.state = .inFlight)
      ∧ (r.resendTimer.isSome = true ↔ r.state = .resendWait))
    (hf : s.ring.claims ≠ [] → s.ring.insertion.length = 24) : DeliveryAgrees (withRecord r s) := by
  have other (a : Actuator) (ha : a ≠ .fan 47) : (withRecord r s).record a = freshDeliveryRecord := by
    rw [withRecord, record_setRecord_ne _ _ _ _ (Ne.symm ha)]
    simpa [State.record, h] using fresh_record a
  refine ⟨fun a => (hq a).trans ?_, fun a => (hc a).trans ?_, fun a => ?_, hf⟩
  all_goals by_cases ha : a = .fan 47
  all_goals first | (subst ha; rw [record_self]; first | exact hr | simp) | (rw [other a ha]; simp [ha, freshDeliveryRecord])

theorem crowded_none (n : Nat) (a : Actuator) : (replies n).countP (QFrame.isCommandOf a) = 0 := by
  simp [replies, List.countP_eq_zero, QFrame.isCommandOf]

/-- A well-fitted queue: ordered, no two frames entered at one moment. -/
theorem ordered (s : State) (h : s.ring.insertion = replies 24 ∧ s.ring.nextEntry = 24 ∨ s.ring.insertion = []
    ∨ ∃ f, s.ring.insertion = [f] ∧ f.entry < s.ring.nextEntry) : QueueOrdered s := by
  unfold QueueOrdered
  rcases h with ⟨h, h'⟩ | h | ⟨f, h, h'⟩
  · rw [h, h']; decide +kernel
  · rw [h]; simp
  · rw [h]; simpa using h'

/-- The six clauses: in flight, the last taken setting again, no address (fan 0), room, no room, and queued. -/
theorem witness_DesiredSettingIsSent :
    (QueueOrdered (withRecord (inState .inFlight) calm) ∧ DeliveryAgrees (withRecord (inState .inFlight) calm)
        ∧ ((withRecord (inState .inFlight) calm).record (.fan 47)).state = .inFlight)
      ∧ (QueueOrdered calm ∧ DeliveryAgrees calm ∧ (calm.record (.fan 47)).state = .idle
        ∧ actuatorAddress calm.tables (.fan 47) ≠ 0 ∧ actuatorAddress calm.tables (.fan 0) = 0 ∧ hasRoom calm = true)
      ∧ (let s := withRecord { freshDeliveryRecord with lastTaken := some (.fan ⟨40, .forward⟩) } (crowded 24)
        QueueOrdered s ∧ DeliveryAgrees s ∧ (s.record (.fan 47)).state = .idle
          ∧ (s.record (.fan 47)).lastTaken = some (.fan ⟨40, .forward⟩) ∧ hasRoom s = false)
      ∧ (let s := withRecord (inState .queued) (offered (.command (.fan 47) (.fan ⟨40, .forward⟩)))
        QueueOrdered s ∧ DeliveryAgrees s ∧ (s.record (.fan 47)).state = .queued) := by
  refine ⟨⟨ordered _ (.inr (.inl rfl)), agrees _ _ rfl (fun a => ?_) (fun a => ?_) (by decide) (by decide), by decide +kernel⟩,
    ⟨calm_ordered, calm_delivery, by decide +kernel⟩,
    ⟨ordered _ (.inl ⟨rfl, rfl⟩), agrees _ _ rfl (fun a => ?_) (fun a => ?_) (by decide) (by decide), by decide +kernel⟩,
    ⟨ordered _ (.inr (.inr ⟨_, rfl, by decide⟩)), agrees _ _ rfl (fun a => ?_) (fun a => ?_) (by decide) (by decide),
      by decide +kernel⟩⟩
  · simp [inState, show calm.ring.insertion = [] from rfl]
  · simp [inState, show calm.ring.claims = [] from rfl]
  · exact (crowded_none 24 a).trans (by simp [freshDeliveryRecord])
  · simp [freshDeliveryRecord]; rfl
  · simp [offered, QFrame.isCommandOf, inState, List.countP_cons, eq_comm]
  · simp [inState]; rfl

/-- A setting can be withdrawn in each of the five states. -/
theorem witness_DesiredSettingIsSent_withdrawn :
    ∀ st ∈ [DeliveryState.idle, .queued, .inFlight, .resendWait, .waitingRoom],
      ((withRecord (inState st) calm).record (.fan 47)).state = st := by decide +kernel

theorem witness_TakenReturnEndsSeries :
    let s := withRecord (inState .inFlight) calm
    let f := fr 223 224 2 9 9 1 []
    s.phase ≠ .held ∧ SignsCurrent s ∧ checkFrame f.bytes false = some f ∧ s.ring.ownAddress = 224
      ∧ (s.record (.fan 47)).state = .inFlight ∧ (s.record (.fan 47)).inFlight = some ⟨.fan ⟨40, .forward⟩, 9, 223⟩
      ∧ (∀ b, recordMatches s 223 9 b = true → b = .fan 47) ∧ proxyMatches s 223 9 = false := by
  refine ⟨by decide, signs_same calm_signs rfl rfl rfl rfl, by decide +kernel, by decide, by decide +kernel, by decide +kernel, ?_,
    by decide +kernel⟩
  intro b h
  refine Classical.byContradiction fun hb => ?_
  rw [recordMatches, withRecord, record_setRecord_ne _ _ _ _ (Ne.symm hb)] at h
  have g : calm.record b = freshDeliveryRecord := fresh_record b
  simp [g, freshDeliveryRecord] at h

/-- What the return finds: ACTUATOR_NO_TAKE present and not, and a setting that is none, the taken one or another, with room
and without. -/
theorem witness_TakenReturnEndsSeries_offers :
    noTake { calm with delivery := { calm.delivery with noTake := setAt calm.delivery.noTake 223 true } } 223 = true
      ∧ noTake calm 223 = false
      ∧ (∀ d ∈ [none, some ⟨.fan ⟨40, .forward⟩, false⟩, some ⟨.fan ⟨90, .reverse⟩, true⟩],
          ((withRecord { inState .inFlight with desired := d } calm).record (.fan 47)).desired = d)
      ∧ actuatorAddress calm.tables (.fan 47) = 223 ∧ hasRoom calm = true ∧ hasRoom (crowded 24) = false := by decide +kernel

/-- A return that is not marked TAKEN, of the one frame in flight. -/
theorem witness_DeliveryTimersExpire_returned :
    let s := withRecord (inState .inFlight) calm
    (∀ m ∈ [0, 2], checkFrame (fr 223 224 2 9 9 m []).bytes false = some (fr 223 224 2 9 9 m []))
      ∧ s.phase = .running ∧ SignsCurrent s ∧ s.ring.ownAddress = 224
      ∧ (s.record (.fan 47)).state = .inFlight ∧ (s.record (.fan 47)).inFlight = some ⟨.fan ⟨40, .forward⟩, 9, 223⟩
      ∧ (∀ b, recordMatches s 223 9 b = true → b = .fan 47) ∧ proxyMatches s 223 9 = false :=
  ⟨by decide +kernel, rfl, signs_same calm_signs rfl rfl rfl rfl, rfl, by decide +kernel, by decide +kernel,
    witness_TakenReturnEndsSeries.2.2.2.2.2.2.1, by decide +kernel⟩

theorem witness_DeliveryTimersExpire :
    (let s (d : Option Desired) (n : Nat) := withRecord { inState .inFlight with desired := d, attempts := n } calm
      ∀ d ∈ [none, some ⟨.fan ⟨40, .forward⟩, false⟩], ∀ n ∈ [1, 2],
        (s d n).phase = .running ∧ ((s d n).record (.fan 47)).state = .inFlight
          ∧ ((s d n).record (.fan 47)).inFlight = some ⟨.fan ⟨40, .forward⟩, 9, 223⟩
          ∧ ((s d n).record (.fan 47)).desired = d ∧ ((s d n).record (.fan 47)).attempts = n
          ∧ actuatorAddress (s d n).tables (.fan 47) = 223
          ∧ dueAt (s d n).clock ((s d n).record (.fan 47)).returnTimer = true)
      ∧ (actuatorAddress defaultSettings (.fan 47) ≠ 223)
      ∧ (let s := withRecord (inState .resendWait) calm
        s.phase = .running ∧ (s.record (.fan 47)).state = .resendWait
          ∧ (s.record (.fan 47)).desired = some ⟨.fan ⟨40, .forward⟩, false⟩
          ∧ dueAt s.clock (s.record (.fan 47)).resendTimer = true) := by decide +kernel

/-- `calm` with a proxy access in flight, its timer due, and the sender it answers. -/
def asking : State :=
  { calm with
    delivery := { calm.delivery with proxy := ⟨.inFlight, 239, 1, 16, 0, 9, some 1000000⟩ }
    mgmt := { calm.mgmt with proxySender := some ⟨239, 5⟩ } }

/-- The same for a WRITE of 300. -/
theorem witness_ProxyAccessEnds_write :
    let s : State := { asking with delivery := { asking.delivery with proxy := ⟨.inFlight, 239, 2, 16, 300, 9, some 1000000⟩ } }
    s.delivery.proxy.op = 2 ∧ s.delivery.proxy.state = .inFlight ∧ s.mgmt.proxySender = some ⟨239, 5⟩ ∧ SignsCurrent s :=
  ⟨rfl, rfl, rfl, signs_same calm_signs rfl rfl rfl rfl⟩

theorem witness_ProxyAccessEnds :
    asking.mgmt.proxySender = some ⟨239, 5⟩ ∧ asking.delivery.proxy.state = .inFlight ∧ asking.phase = .running
      ∧ Expired asking asking.delivery.proxy.timer ∧ SignsCurrent asking ∧ asking.ring.ownAddress = 224
      ∧ asking.delivery.proxy.target = 239 ∧ asking.delivery.proxy.tag = 9
      ∧ checkFrame (fr 239 224 2 9 9 0 []).bytes false = some (fr 239 224 2 9 9 0 [])
      ∧ checkFrame (fr 239 224 2 9 9 1 []).bytes false = some (fr 239 224 2 9 9 1 [])
      ∧ checkFrame (fr 239 224 2 9 9 2 []).bytes false = some (fr 239 224 2 9 9 2 []) := by
  refine ⟨rfl, rfl, rfl, due (by decide), signs_same calm_signs rfl rfl rfl rfl, ?_⟩
  decide +kernel

/-! ## Air, fans, guidance -/

theorem witness_GasReportIsFiltered :
    calm.phase = .running ∧ checkFrame (fr 255 220 1 9 0 0 [0, 1, 0, 1, 0]).bytes false = some (fr 255 220 1 9 0 0 [0, 1, 0, 1, 0])
      ∧ calm.ring.ownAddress = 224 ∧ (node calm 220).equipment = some (.gas, 63)
      ∧ parseGas (fr 255 220 1 9 0 0 [0, 1, 0, 1, 0]).payload = some ⟨some 1, some 1, .ok⟩
      ∧ parseGas (fr 255 220 1 9 0 0 [0, 1, 0, 1, 2]).payload = some ⟨some 1, some 1, .fault⟩
      ∧ (node calm 220).sensorFault = false
      ∧ (node { calm with nodes := setAt calm.nodes 220 { getAt calm.nodes 220 with sensorFault := true } } 220).sensorFault
          = true
      ∧ 0 < 16 * 1 ∧ 16 * 1 < 17 := by decide +kernel

/-- `calm` with these traffic loads in zones 14 and 15, decaying at 0 and 255. -/
def loaded2 : State :=
  { calm with
    tables := { fittedTables with
      zones := setAt (setAt fittedTables.zones 14 { defaultZone with decay := 0 }) 15 { defaultZone with decay := 255 } }
    air := { calm.air with
      zones := setAt (setAt calm.air.zones 14 { freshZone with load := 4095 }) 15 { freshZone with load := 1 } } }

theorem witness_TrafficLoadDecays :
    loaded2.phase = .running ∧ Expired loaded2 loaded2.air.evaluationTimer
      ∧ (getAt loaded2.air.zones 14).load = 4095 ∧ (getAt loaded2.tables.zones 14).decay = 0
      ∧ (getAt loaded2.air.zones 15).load = 1 ∧ (getAt loaded2.tables.zones 15).decay = 255
      ∧ (getAt loaded2.air.zones 0).load = 0 := ⟨rfl, due (by decide), by decide +kernel⟩

/-- `calm` with the gas sensor LIVE, so that its head counts. -/
def sensed : State :=
  { calm with
    nodes := setAt calm.nodes 220 { freshNode with equipment := some (.gas, 63), liveness := .live, silenceTimer := some 1000000 }
    air := { calm.air with sensors := setAt calm.air.sensors 63 ⟨some 640, none, some .ok⟩ } }

theorem witness_EvaluationWorksZones :
    zoneOrdered defaultZone = true ∧ sensed.phase = .running ∧ Expired sensed sensed.air.evaluationTimer
      ∧ usableSensors sensed 15 ≠ [] ∧ usableSensors sensed 14 = []
      ∧ (groupEntry sensed 95).zone = 15 ∧ (getAt sensed.tables.zones 15).level = 0 := by
  refine ⟨by decide, rfl, due (by decide), ?_⟩; decide +kernel

theorem witness_AllocationArithmetic :
    (0 < 60 ∧ 60 ≤ 60) ∧ 60 < 61 ∧ (100 ≤ 100 ∧ defaultFan.minSpeed ≤ 100)
      ∧ (30 ≤ 50 + defaultFan.rampStep ∧ 50 ≤ 30 + defaultFan.rampStep) ∧ (0 + defaultFan.rampStep < 30 ∧ 0 < 0 + defaultFan.rampStep)
      ∧ (40 + defaultFan.rampStep < 90 ∧ defaultFan.minSpeed ≤ 90 - defaultFan.rampStep)
      ∧ (0 + defaultFan.rampStep < 30 ∧ 0 < 30 - defaultFan.rampStep ∧ 30 - defaultFan.rampStep < defaultFan.minSpeed) := by
  decide

/-- `calm` with the record of group 95 as given. -/
def withGroup (r : GroupRecord) : State := { calm with light := { calm.light with groups := setAt calm.light.groups 95 r } }

/-- `calm` with the record of fan 47 as given. -/
def withFan (r : FanRecord) : State := { calm with fans := setAt calm.fans 47 r }

theorem witness_EvaluationSetsFans :
    calm.phase = .running ∧ Expired calm calm.air.evaluationTimer ∧ fanAddress calm 47 ≠ 0
      ∧ (getAt calm.tables.fans 47).zone = 15 ∧ fanAddress calm 0 = 0
      ∧ ∀ r ∈ [freshFan, { freshFan with held := true }, { freshFan with manualMode := true },
          { freshFan with service := .out .stop }, { freshFan with service := .out .release }],
        fan (withFan r) 47 = r := by
  refine ⟨rfl, due (by decide), ?_⟩; decide +kernel

/-- `calm` in fire mode, as far as the latch goes. -/
def burning : State := { calm with fire := { calm.fire with latch := true } }

theorem witness_ManualAndAutoOrders :
    HeadRequest (asked [8, 48, 0, 0] calm) (headOf [8, 48, 0, 0]) [] (.manual 48 0 0)
      ∧ (HeadRequest (asked [8, 47, 101, 1] burning) (headOf [8, 47, 101, 1]) [] (.manual 47 101 1) ∧ burning.fire.latch = true)
      ∧ HeadRequest (asked [8, 47, 101, 2] calm) (headOf [8, 47, 101, 2]) [] (.manual 47 101 2)
      ∧ HeadRequest (asked [8, 47, 101, 1] calm) (headOf [8, 47, 101, 1]) [] (.manual 47 101 1)
      ∧ HeadRequest (asked [9, 47] calm) (headOf [9, 47]) [] (.auto 47)
      ∧ HeadRequest (asked [9, 48] calm) (headOf [9, 48]) [] (.auto 48)
      ∧ (fan calm 47).service = .inService ∧ (fan (withFan { freshFan with service := .out .stop }) 47).service ≠ .inService :=
  ⟨head _ _ _, ⟨head _ _ _, rfl⟩, head _ _ _, head _ _ _, head _ _ _, head _ _ _, by decide +kernel⟩

/-- A report of fan 47's drive: tested at a reference speed of 50, with a test that holds and one that does not, and
tripped. -/
theorem witness_DeglitchedConditionsAppear_report :
    let s := withRecord { freshDeliveryRecord with lastTaken := some (.fan ⟨50, .forward⟩) }
      (withFan { freshFan with commanded := ⟨50, .forward⟩, stall := ⟨none, true⟩ })
    Passes s 223 [50, 0, 9, 0, 2] .fan 47 ∧ NodeMapExact s
      ∧ parseDrive (fr 255 223 1 9 0 0 [50, 0, 9, 0, 2]).payload = some ⟨50, 9, .forward, .tripped⟩
      ∧ Passes calm 223 [0, 0, 0, 1, 1] .fan 47 ∧ NodeMapExact calm
      ∧ parseDrive (fr 255 223 1 9 0 0 [0, 0, 0, 1, 1]).payload = some ⟨0, 0, .reverse, .stopped⟩ :=
  ⟨passing, calm_nodes, by decide +kernel, passing, calm_nodes, by decide +kernel⟩

theorem witness_DeglitchedConditionsAppear :
    (let s := withFan { freshFan with stall := ⟨some 1000000, false⟩ };
      s.phase = .running ∧ Expired s ((fan s 47).test .stall).timer)
      ∧ (let s := withGroup { freshGroup defaultGroup with lamp := ⟨some 1000000, false⟩ };
        s.phase = .running ∧ Expired s (group s 95).lamp.timer)
      ∧ calm.phase ≠ .held ∧ Expired calm calm.ring.silenceTimer :=
  ⟨⟨rfl, due (by decide +kernel)⟩, ⟨rfl, due (by decide +kernel)⟩, by decide, due (by decide)⟩

/-- `calm` with the record of bay 2047 as given. -/
def withBay (r : BayRecord) : State := { calm with guide := { calm.guide with bays := setAt calm.guide.bays 2047 r } }

theorem witness_BaySettles :
    ∀ x ∈ [SlotState.taken, .fault],
      let s := withBay ⟨some .free, some x, some 1000000, none⟩
      s.phase = .running ∧ (bay s 2047).pending = some x ∧ (bay s 2047).state = some .free
        ∧ dueAt s.clock (bay s 2047).timer = true
        ∧ .row (getAt s.tables.bays 2047).row ∈ (groupEntry s 95).triggers
        ∧ .row (getAt s.tables.bays 2047).row ∉ (groupEntry s 0).triggers := by decide +kernel

/-- A report of the last cluster, of its 8 bays and of one only. -/
theorem witness_BaySettles_report :
    Passes calm 219 [8, 0, 1, 2, 0, 1, 2, 0, 2] .bay 255 ∧ NodeMapExact calm
      ∧ FreeCountsExact calm
      ∧ parseCluster (fr 255 219 1 9 0 0 [8, 0, 1, 2, 0, 1, 2, 0, 2]).payload
          = some [.free, .taken, .fault, .free, .taken, .fault, .free, .fault]
      ∧ Passes calm 219 [1, 0] .bay 255
      ∧ parseCluster (fr 255 219 1 9 0 0 [1, 0]).payload = some [.free]
      ∧ (getAt calm.tables.clusters 255).first = 2040 ∧ (getAt calm.tables.clusters 255).count = 8 :=
  ⟨passing, calm_nodes, calm_counts, by decide +kernel, passing, by decide +kernel, by decide +kernel, by decide +kernel⟩

/-- `calm` late enough for an arrival of its first moment to reach the transit timeout just now. -/
def arrived : State :=
  { calm with
    clock := 180 * second
    guide := { calm.guide with levels := setAt calm.guide.levels 7 { freshLevel with arrivals := [⟨0, 218⟩, ⟨1, 218⟩], aged := 65535 } } }

theorem witness_ArrivalsAgeOut :
    arrived.phase = .running ∧ (getAt arrived.guide.levels 7).arrivals = ⟨0, 218⟩ :: [⟨1, 218⟩]
      ∧ (getAt arrived.tables.levels 7).transit * 10 ≤ tenthsSinceStart arrived - 0
      ∧ (getAt arrived.guide.levels 7).aged ≤ 65535 := by decide +kernel

/-- A report of lane 31, LIVE with a baseline and heard for the first time. -/
theorem witness_ArrivalsAgeOut_report :
    (let r := { getAt calm.nodes 218 with liveness := .live, baseline := .lane 253 0 }
      let s : State := { calm with nodes := setAt calm.nodes 218 r }
      Passes s 218 [2, 255] .lane 31 ∧ WithinCapacities s
        ∧ (node s 218).liveness = .live ∧ (node s 218).baseline = .lane 253 0)
      ∧ Passes calm 218 [2, 255] .lane 31 ∧ WithinCapacities calm
      ∧ parseLane (fr 255 218 1 9 0 0 [2, 255]).payload = some (2, 255)
      ∧ (getAt calm.tables.lanes 31).inLevel = some 7 ∧ (getAt calm.guide.levels 7).dropped ≤ 65535 :=
  ⟨⟨passing, capacities_same calm_capacities rfl rfl rfl, by decide +kernel, by decide +kernel⟩, passing, calm_capacities, by decide +kernel,
    by decide +kernel, by decide +kernel⟩

/-- `calm` with the record of sign 47 as given. -/
def withSign (r : SignRecord) : State := { calm with guide := { calm.guide with signs := setAt calm.guide.signs 47 r } }

theorem witness_SignsShowAndWait :
    burning.fire.latch = true ∧ calm.fire.latch = false
      ∧ (let s := { calm with guide := { calm.guide with levels := Vector.replicate 8 { freshLevel with reasons := ⟨false, false, false, true⟩ } } }
        ∀ x ∈ (getAt s.tables.signs 47).sources, sourceClosed s x = true)
      ∧ (let s := { calm with guide := { calm.guide with levels := Vector.replicate 8 { freshLevel with free := 1000 } } }
        signSetting s (getAt s.tables.signs 47) = ⟨.number 999, .ahead⟩)
      ∧ (let e := { defaultSign with sources := [.row 63], fullThreshold := 99, arrowFull := .left }
        let s (n : Nat) : State := { calm with guide := { calm.guide with rowFree := setAt calm.guide.rowFree 63 n } }
        (∃ x ∈ e.sources, sourceClosed calm x = false) ∧ signSetting (s 99) e = ⟨.full, .left⟩
          ∧ signSetting (s 100) e = ⟨.number 100, .ahead⟩)
      ∧ ∀ r ∈ [({ freshSign with timer := some 1000000 } : SignRecord),
          { freshSign with timer := some 1000000, pending := true, lastSent := some freshSign.computed },
          { freshSign with timer := some 1000000, pending := true, out := true },
          { freshSign with timer := some 1000000, pending := true }],
        (withSign r).phase = .running ∧ getAt (withSign r).guide.signs 47 = r ∧ dueAt (withSign r).clock r.timer = true := by
  decide +kernel

theorem witness_OperatorOrdersLevels :
    HeadRequest (asked [10, 8] calm) (headOf [10, 8]) [] (.closeLevel 8)
      ∧ HeadRequest (asked [10, 7] calm) (headOf [10, 7]) [] (.closeLevel 7)
      ∧ HeadRequest (asked [11, 7] calm) (headOf [11, 7]) [] (.openLevel 7) := ⟨head _ _ _, head _ _ _, head _ _ _⟩

theorem witness_HoldBaysMarks :
    HeadRequest (asked [12, 8, 0, 0, 1, 1] calm) (headOf [12, 8, 0, 0, 1, 1]) [] (.holdBays 2048 1 1)
      ∧ HeadRequest (asked [12, 7, 255, 0, 1, 2] calm) (headOf [12, 7, 255, 0, 1, 2]) [] (.holdBays 2047 1 2)
      ∧ HeadRequest (asked [12, 7, 255, 0, 2, 1] calm) (headOf [12, 7, 255, 0, 2, 1]) [] (.holdBays 2047 2 1)
      ∧ FreeCountsExact (asked [12, 7, 255, 0, 2, 1] calm) ∧ SignsCurrent (asked [12, 7, 255, 0, 2, 1] calm) :=
  ⟨head _ _ _, head _ _ _, head _ _ _, counts_same calm_counts rfl rfl rfl, signs_same calm_signs rfl rfl rfl rfl⟩

/-! ## Lighting, nodes, faults -/

theorem witness_LightTimersExpire :
    calm.phase = .running ∧ Expired calm calm.light.stepTimer
      ∧ (∀ r ∈ [freshGroup defaultGroup, { freshGroup defaultGroup with output := some 20 },
            { freshGroup defaultGroup with output := some 100, state := .hold },
            { freshGroup defaultGroup with output := some 9 }, { freshGroup defaultGroup with output := some 31 },
            { freshGroup defaultGroup with output := some 0, state := .forced }], group (withGroup r) 95 = r)
      ∧ ∀ st ∈ [GroupState.hold, .forced],
          let s := withGroup { freshGroup defaultGroup with state := st, holdTimer := some 1000000 }
          s.phase = .running ∧ (group s 95).state = st ∧ dueAt s.clock (group s 95).holdTimer = true := by
  refine ⟨rfl, due (by decide), ?_⟩; decide +kernel

/-- A report of group 95's driver, LIVE with a baseline, its lamp dark. -/
theorem witness_LightTimersExpire_report :
    let s : State := { withGroup { freshGroup defaultGroup with lamp := ⟨none, true⟩ } with
      nodes := setAt calm.nodes 222 { getAt calm.nodes 222 with liveness := .live, baseline := .motion 255 } }
    Passes s 222 [100, 0, 0, 1] .luminaire 95
      ∧ parseLuminaire (fr 255 222 1 9 0 0 [100, 0, 0, 1]).payload = some (⟨100, 0⟩, 1)
      ∧ (node s 222).liveness = .live ∧ (node s 222).baseline = .motion 255 ∧ (group s 95).out = false
      ∧ (group s 95).lamp.present = true :=
  ⟨passing, by decide +kernel, by decide +kernel, by decide +kernel, by decide +kernel, by decide +kernel⟩

/-- `calm` with the node at an address LIVE and its silence timer due. -/
def livesAt (a : Nat) : State :=
  { calm with nodes := setAt calm.nodes a { getAt calm.nodes a with liveness := .live, silenceTimer := some 1000000 } }

theorem witness_NodeFallsSilent :
    (∀ p ∈ named, (node (livesAt p.2.2) p.2.2).equipment = some (p.1, p.2.1)
        ∧ dueAt (livesAt p.2.2).clock (node (livesAt p.2.2) p.2.2).silenceTimer = true)
      ∧ (livesAt 223).phase = .running ∧ FreeCountsExact (livesAt 223) ∧ FreeCountsExact (livesAt 219)
      ∧ clusterRange (getAt calm.tables.clusters 255) = [2040, 2041, 2042, 2043, 2044, 2045, 2046, 2047] :=
  ⟨by decide +kernel, rfl, counts_same calm_counts rfl rfl rfl, counts_same calm_counts rfl rfl rfl,
    by decide +kernel⟩

/-- A fault record of fan 47's address. -/
def faultOf (c : FaultClass) (st : RecordState) (n : Nat) : FaultRecord :=
  ⟨c, 223, st, false, n, 1, 0, 0, if st = .out then some 1000000 else none, false⟩

/-- `calm` with these fault records. -/
def withFaults (l : List FaultRecord) : State := { calm with faults := { calm.faults with list := l } }

/-- Lists of 64 records: one ENDED, one ACTIVE, and none of either. -/
def fullList (first : RecordState) : List FaultRecord :=
  faultOf .lampOpen first 1 :: (List.range 63).map fun k => { faultOf .nodeSilent .latched 1 with addr := k + 1 }

theorem witness_PresenceIsRecorded :
    (modeOf calm .fanStall ≠ .ignore ∧ findRecord calm .fanStall 223 = none ∧ calm.faults.list.length < 64)
      ∧ (∀ st ∈ [RecordState.ended, .active, .out], 64 ≤ (withFaults (fullList st)).faults.list.length
        ∧ findRecord (withFaults (fullList st)) .fanStall 223 = none
        ∧ (withFaults (fullList st)).faults.list = [] ++ faultOf .lampOpen st 1 :: (fullList st).tail)
      ∧ (∀ x ∈ fullList .out, x.state = .out ∨ x.state = .latched)
      ∧ (∀ st ∈ [RecordState.active, .latched, .ended, .out], ∀ n ∈ [2, 3],
          findRecord (withFaults [faultOf .fanStall st n]) .fanStall 223 = some (faultOf .fanStall st n))
      ∧ modeOf calm .fanOverspeed = .report ∧ modeOf calm .fanNoLoad = .latch ∧ modeOf calm .fanStall = .retry
      ∧ (response calm .fanStall).limit = 3 ∧ modeOf burning .fanStall = .report := by decide +kernel

theorem witness_RetryTimerEndsRecord :
    ∀ b : Bool, let r := { faultOf .fanStall .out 3 with present := b }
      (withFaults [r]).phase = .running ∧ findRecord (withFaults [r]) .fanStall 223 = some r
        ∧ dueAt (withFaults [r]).clock r.timer = true := by decide +kernel

/-- The service state changes for each kind that follows it, in each direction, and a fan under the plan is met too. -/
theorem witness_RetryTimerEndsRecord_service :
    (∀ st ∈ [RecordState.out, .latched], serviceOf (withFaults [faultOf .fanStall st 1]) 223 ≠ .inService)
      ∧ serviceOf (withFaults [faultOf .fanStall .ended 1]) 223 = .inService ∧ serviceOf calm 0 = .inService
      ∧ ((node calm 223).equipment = some (.fan, 47) ∧ (fan calm 47).service = .inService)
      ∧ (node calm 222).equipment = some (.luminaire, 95) ∧ (node calm 221).equipment = some (.sign, 47)
      ∧ (node calm 220).equipment = some (.gas, 63) ∧ (node calm 1).equipment = none
      ∧ (fan (withFan { freshFan with service := .out .stop, manualMode := true }) 47).service ≠ serviceOf calm 223
      ∧ burning.fire.latch = true ∧ (getAt burning.fire.plan 47).action ≠ .leave := by decide +kernel

/-- A flag that is set, one that is not, enabled and not, with a notice pending or none, with room and without. -/
theorem witness_AckClearsFlags_raised :
    flagSet { calm with faults := { calm.faults with flags := setAt calm.faults.flags 9 true } } .listFull = true
      ∧ flagSet calm .fire = false ∧ getAt calm.tables.control.enables 0 = true
      ∧ (let c := { calm.tables.control with enables := Vector.replicate 10 false }
        let s : State := { calm with tables := { calm.tables with control := c } }
        flagSet s .fire = false ∧ getAt s.tables.control.enables 0 = false)
      ∧ calm.faults.notice = .none ∧ hasRoom calm = true ∧ hasRoom (crowded 24) = false
      ∧ (crowded 24).faults.notice = .none
      ∧ ({ calm with faults := { calm.faults with notice := .queued } } : State).faults.notice ≠ .none := by decide +kernel

theorem witness_AckClearsFlags :
    HeadRequest (asked [6, 0] calm) (headOf [6, 0]) [] (.ack [])
      ∧ HeadRequest (asked (6 :: 11 :: List.replicate 11 0) calm) (headOf (6 :: 11 :: List.replicate 11 0)) [] (.ack (List.replicate 11 0))
      ∧ HeadRequest (asked [6, 1, 10] calm) (headOf [6, 1, 10]) [] (.ack [10])
      ∧ HeadRequest (asked [6, 10, 0, 1, 2, 3, 4, 5, 6, 7, 8, 9] calm) (headOf [6, 10, 0, 1, 2, 3, 4, 5, 6, 7, 8, 9]) []
          (.ack [0, 1, 2, 3, 4, 5, 6, 7, 8, 9]) := ⟨head _ _ _, head _ _ _, head _ _ _, head _ _ _⟩

/-- The node map does not look at the request queue and the fault list. -/
theorem witness_ClearFaultsRemoves :
    HeadRequest (asked [7, 6] calm) (headOf [7, 6]) [] (.clearFaults 6)
      ∧ (let s := asked [7, 5] (withFaults [faultOf .fanStall .latched 3])
        HeadRequest s (headOf [7, 5]) [] (.clearFaults 5) ∧ NodeMapExact s
          ∧ (s.faults.list.filter fun x => inCategory 5 x.cls && !x.present) = [faultOf .fanStall .latched 3]
          ∧ (node s 223).equipment = some (.fan, 47)) :=
  ⟨head _ _ _, head _ _ _, calm_nodes, by decide +kernel, by decide +kernel⟩

/-- The record that goes is that of a group or of a sign; and no other address loses one. -/
theorem witness_ClearFaultsRemoves_others :
    (∀ p ∈ [(222, NodeKind.luminaire, 95), (221, NodeKind.sign, 47)],
      let s := asked [7, 3] (withFaults [{ faultOf .actuatorNoTake .latched 3 with addr := p.1 }])
      (s.faults.list.filter fun x => inCategory 3 x.cls && !x.present).map (·.addr) = [p.1]
        ∧ (node s p.1).equipment = some p.2)
      ∧ fanAddress calm 47 ≠ 222 ∧ (groupEntry calm 95).addr ≠ 221 ∧ (getAt calm.tables.signs 47).addr ≠ 222 := by decide +kernel

/-! ## Fire -/

theorem witness_FireModeIsEntered :
    calm.phase = .running ∧ calm.fire.fireIn = false ∧ calm.fire.latch = false ∧ GroupStatesFollow calm
      ∧ burning.phase = .running ∧ burning.fire.fireIn = false ∧ burning.fire.latch = true
      ∧ State.reset.phase = .loading false loadingTicks ∧ State.reset.fire.fireIn = false
      ∧ HeadRequest (asked [13] burning) (headOf [13]) [] .fireOn
      ∧ HeadRequest (asked [13] calm) (headOf [13]) [] .fireOn ∧ GroupStatesFollow (asked [13] calm) :=
  ⟨rfl, rfl, rfl, calm_groups, rfl, rfl, rfl, rfl, rfl, head _ _ _, head _ _ _, calm_groups⟩

theorem witness_FireModeIsLeft :
    (let s := { burning with fire := { burning.fire with fireIn := true } };
      HeadRequest (asked [14] s) (headOf [14]) [] .fireOff)
      ∧ HeadRequest (asked [14] calm) (headOf [14]) [] .fireOff
      ∧ HeadRequest (asked [14] burning) (headOf [14]) [] .fireOff ∧ GroupStatesFollow (asked [14] burning) :=
  ⟨head _ _ _, head _ _ _, head _ _ _, calm_groups⟩

theorem witness_StartDelaySetsPlan :
    calm.phase ≠ .held ∧ ∀ a ∈ [PlanAction.runForward, .runReverse, .stop],
      let s := { calm with fire := { calm.fire with
        startTimers := setAt calm.fire.startTimers 47 (.running 1000000), plan := setAt calm.fire.plan 47 ⟨a, 10, 60⟩ } }
      s.phase = .running ∧ getAt s.fire.startTimers 47 = .running 1000000 ∧ 1000000 ≤ s.clock := by decide +kernel

/-! ## Management and store -/

/-- `calm` with the store engine at work until this very tick, for the panel. -/
def storing (op : StoreOp) : State :=
  { calm with
    store := { calm.store with engine := .busy op 1000000 }
    mgmt := { calm.mgmt with storeSender := some ⟨239, 5⟩ } }

theorem witness_RepliesAreOffered :
    calm.mgmt.outgoing = [] ∧ calm.delivery.proxy.state ≠ .waitingRoom ∧ hasRoom (crowded 23) = true
      ∧ hasRoom (crowded 24) = false
      ∧ ({ calm with mgmt := { calm.mgmt with outgoing := [⟨239, 5, []⟩] } } : State).mgmt.outgoing ≠ [] := by
  decide +kernel

theorem witness_AimAndUnknownAnswered :
    HeadRequest (asked [1, 14, 0, 0] calm) (headOf [1, 14, 0, 0]) [] (.aim 14 0)
      ∧ HeadRequest (asked [1, 13, 0, 64] calm) (headOf [1, 13, 0, 64]) [] (.aim 13 64)
      ∧ HeadRequest (asked [1, 13, 0, 63] calm) (headOf [1, 13, 0, 63]) [] (.aim 13 63)
      ∧ HeadRequest (asked [19] calm) (headOf [19]) [] .unknown :=
  ⟨head _ _ _, head _ _ _, head _ _ _, head _ _ _⟩

/-- A state with its cursor at an index of a table. -/
def aimed (table index : Nat) (s : State) : State := { s with mgmt := { s.mgmt with cursor := ⟨table, index, index⟩ } }

/-- Bytes of one entry of each table that can be written, at its last index or part 4, that `calm` takes. -/
def goodEntries : List (Nat × Nat × List Byte) :=
  [(0, 4, writeControl 4 defaultControl), (1, 15, writeZone defaultZone), (2, 63, writeGas ⟨100, 15⟩),
    (3, 47, writeFan { defaultFan with addr := 100 }), (4, 255, writeCluster ⟨100, 2000, 8⟩), (5, 2047, writeBay ⟨63, true⟩),
    (6, 63, writeRow ⟨7, 15⟩), (7, 7, writeLevels ⟨1000, 999, 30⟩), (8, 31, writeLane { defaultLane with addr := 100 }),
    (9, 47, writeSign { defaultSign with addr := 100 }),
    (10, 95, writeGroup { defaultGroup with addr := 100, zone := 14 }), (11, 9, writeResponse ⟨.ignore, .release, 5, 1⟩),
    (12, 47, writePlan ⟨.leave, 10, 0⟩)]

/-- Bytes that each table refuses: too few, or an entry that a check of its chapter finds bad. -/
def badEntries : List (Nat × Nat × List Byte) :=
  [(0, 1, [239#8, 2#8, 9#8, 9#8] ++ List.replicate 10 1#8), (1, 15, writeZone { defaultZone with dn1 := 999 }),
    (2, 62, writeGas ⟨220, 15⟩), (3, 46, writeFan { defaultFan with addr := 220 }), (4, 254, writeCluster ⟨100, 2033, 8⟩),
    (5, 2047, [63#8, 2#8]), (6, 63, [7#8]), (7, 7, writeLevels ⟨999, 999, 30⟩), (8, 30, writeLane { defaultLane with addr := 220 }),
    (9, 47, writeSign { defaultSign with sources := [.row 1, .row 1] }),
    (10, 95, writeGroup { defaultGroup with triggers := [.ownMotion, .ownMotion] }), (11, 9, [4#8, 0#8, 0#8, 5#8, 1#8]),
    (12, 47, [4#8, 10#8, 0#8])]

theorem witness_PutIsCheckedInOrder_entries :
    ∀ p ∈ badEntries, p.1 ≤ 12 ∧ p.2.1 ≤ lastIndex p.1 ∧ (writeEntry p.1 p.2.1 p.2.2 calm).isNone = true := by decide +kernel

/-- For PUT's entries and for reading them back alike. -/
theorem witness_PutWritesEntries_taken :
    calm.phase = .running
      ∧ ∀ p ∈ goodEntries, p.2.1 ≤ lastIndex p.1 ∧ (writeEntry p.1 p.2.1 p.2.2 calm).isSome = true := by
  refine ⟨rfl, ?_⟩; decide +kernel

theorem witness_PutIsCheckedInOrder :
    HeadRequest (asked [2, 13, 0, 63, 0] (storing (.keep fittedTables))) (headOf [2, 13, 0, 63, 0]) [] (.put 13 63 [0#8])
      ∧ (storing (.keep fittedTables)).store.engine ≠ .idle
      ∧ HeadRequest (asked [2, 13, 0, 63, 0] (aimed 13 63 calm)) (headOf [2, 13, 0, 63, 0]) [] (.put 13 63 [0#8])
      ∧ HeadRequest (asked [2, 12, 0, 47, 0] (aimed 12 47 burning)) (headOf [2, 12, 0, 47, 0]) [] (.put 12 47 [0#8])
      ∧ HeadRequest (asked [2, 12, 0, 46, 0] (aimed 12 47 calm)) (headOf [2, 12, 0, 46, 0]) [] (.put 12 46 [0#8])
      ∧ HeadRequest (asked [2, 12, 0, 47, 3, 100, 60] (aimed 12 47 calm)) (headOf [2, 12, 0, 47, 3, 100, 60]) []
          (.put 12 47 [3#8, 100#8, 60#8]) :=
  ⟨head _ _ _, by decide +kernel, head _ _ _, head _ _ _, head _ _ _, head _ _ _⟩

theorem witness_PutWritesEntries :
    ([3#8, 100#8] ≠ [] ∧ lastIndex 12 < 48 ∧ 47 ≤ lastIndex 12 ∧ (writeEntry 12 47 [3#8, 100#8] calm).isNone = true)
      ∧ (∃ t, writeEntry 12 47 [3#8, 101#8, 60#8] calm = some (t, true, []))
      ∧ HeadRequest (asked [2, 12, 0, 47, 3, 100, 60] (aimed 12 47 calm)) (headOf [2, 12, 0, 47, 3, 100, 60]) []
          (.put 12 47 [3#8, 100#8, 60#8])
      ∧ calm.store.engine = .idle ∧ calm.fire.planLock = false ∧ calm.fire.latch = false :=
  ⟨by decide +kernel, ⟨_, rfl⟩, head _ _ _, by decide +kernel⟩

theorem witness_FetchReadsEntries :
    ∀ p ∈ [(0, 4), (12, 46), (13, 62)], (aimed p.1 p.2 calm).mgmt.cursor.index ≤ lastIndex p.1
      ∧ HeadRequest (asked [3, 3] (aimed p.1 p.2 calm)) (headOf [3, 3]) [] (.fetch 3) := by
  intro p h
  refine ⟨?_, ⟨rfl, rfl, nofun, rfl, rfl, by decide +kernel⟩⟩
  revert p; decide

theorem witness_StoreRequestsStart :
    (∀ c ∈ [(4, Req.keep), (15, .lockPlan), (16, .unlockPlan)],
        HeadRequest (asked [c.1] (storing (.keep fittedTables))) (headOf [c.1]) [] c.2
          ∧ HeadRequest (asked [c.1] calm) (headOf [c.1]) [] c.2)
      ∧ (storing (.keep fittedTables)).store.engine ≠ .idle ∧ calm.store.engine = .idle
      ∧ ((getAt calm.fire.plan 0).action = .runForward ∧ fanAddress calm 0 = 0)
      ∧ (∀ i, i < 48 → (getAt (Vector.replicate 48 ⟨.leave, 100, 0⟩ : Plan) i).action = .leave)
      ∧ calm.fire.keysw = false ∧ ({ calm with fire := { calm.fire with keysw := true } } : State).fire.keysw = true := by
  refine ⟨?_, by decide +kernel⟩
  intro c h
  simp only [List.mem_cons, List.not_mem_nil, or_false] at h
  rcases h with rfl | rfl | rfl <;> exact ⟨head _ _ _, head _ _ _⟩

theorem witness_StoreOperationEnds :
    ∀ op ∈ [StoreOp.keep fittedTables, .lock defaultPlan, .unlock defaultPlan],
      (storing op).phase = .running ∧ (storing op).store.engine = .busy op 1000000
        ∧ (storing op).mgmt.storeSender = some ⟨239, 5⟩ := fun _ _ => ⟨rfl, rfl, rfl⟩

theorem witness_StateViewsReturned :
    ∀ p ∈ [(0, 15), (0, 16), (1, 7), (1, 8), (2, 47), (2, 48), (3, 95), (3, 96), (4, 47), (4, 48), (5, 255), (6, 255), (7, 255),
        (8, 0), (255, 255)], HeadRequest (asked [5, p.1, p.2] calm) (headOf [5, p.1, p.2]) [] (.state p.1 p.2) := by
  intro p h
  refine ⟨rfl, rfl, nofun, rfl, rfl, ?_⟩
  revert p; decide +kernel

theorem witness_AskNodeStartsProxy :
    HeadRequest (asked [17, 0, 1, 0, 0, 0] calm) (headOf [17, 0, 1, 0, 0, 0]) [] (.askNode 0 1 0 0)
      ∧ HeadRequest (asked [17, 224, 1, 0, 0, 0] calm) (headOf [17, 224, 1, 0, 0, 0]) [] (.askNode 224 1 0 0)
      ∧ HeadRequest (asked [17, 223, 3, 0, 0, 0] calm) (headOf [17, 223, 3, 0, 0, 0]) [] (.askNode 223 3 0 0)
      ∧ HeadRequest (asked [17, 223, 2, 15, 0, 0] calm) (headOf [17, 223, 2, 15, 0, 0]) [] (.askNode 223 2 15 0)
      ∧ HeadRequest (asked [17, 223, 2, 16, 0, 0] asking) (headOf [17, 223, 2, 16, 0, 0]) [] (.askNode 223 2 16 0)
      ∧ asking.delivery.proxy.state ≠ .idle
      ∧ HeadRequest (asked [17, 223, 2, 16, 0, 0] calm) (headOf [17, 223, 2, 16, 0, 0]) [] (.askNode 223 2 16 0)
      ∧ hasRoom calm = true
      ∧ HeadRequest (asked [17, 1, 1, 0, 0, 0] (crowded 24)) (headOf [17, 1, 1, 0, 0, 0]) [] (.askNode 1 1 0 0)
      ∧ hasRoom (crowded 24) = false :=
  ⟨head _ _ _, head _ _ _, head _ _ _, head _ _ _, head _ _ _, by decide, head _ _ _, by decide +kernel, head _ _ _, by decide +kernel⟩

theorem witness_RestartTakesEffectOnce :
    HeadRequest (asked [18] (storing (.keep fittedTables))) (headOf [18]) [] .restart
      ∧ (HeadRequest (asked [18] (sendingUntil 1000000)) (headOf [18]) [] .restart ∧ portBSending (sendingUntil 1000000) = true)
      ∧ (HeadRequest (asked [18] calm) (headOf [18]) [] .restart ∧ portBSending calm = false)
      ∧ (let s := { calm with mgmt := { calm.mgmt with restartPending := true } }
        s.phase = .running ∧ s.mgmt.restartPending = true ∧ portBSending s = false)
      ∧ calm.mgmt.restartPending = false :=
  ⟨head _ _ _, ⟨head _ _ _, rfl⟩, ⟨head _ _ _, rfl⟩, ⟨rfl, rfl, rfl⟩, rfl⟩

/-! ## Codings and invariants -/

theorem witness_EntriesReadBack :
    readZone (writeZone defaultZone ++ [9#8], false) = some (defaultZone, [9#8], false)
      ∧ readGas ([224#8, 16#8], false) = some (⟨223, 15⟩, [], true)
      ∧ readFan (writeFan defaultFan, false) = some (defaultFan, [], false)
      ∧ readCluster ([223#8, 7#8, 255#8, 8#8], false) = some (⟨223, 2047, 8⟩, [], false)
      ∧ readBay ([63#8, 1#8], false) = some (⟨63, true⟩, [], false) ∧ readRow ([7#8, 15#8], false) = some (⟨7, 15⟩, [], false)
      ∧ readLevels (writeLevels ⟨1000, 999, 900⟩, false) = some (⟨1000, 999, 900⟩, [], false)
      ∧ readLane (writeLane defaultLane, false) = some (defaultLane, [], false)
      ∧ readSign (writeSign defaultSign, false) = some (defaultSign, [], false)
      ∧ readGroup (writeGroup defaultGroup, false) = some (defaultGroup, [], false)
      ∧ readResponse ([1#8, 1#8, 14#8, 16#8, 15#8], false) = some (⟨.retry, .release, 3600, 15⟩, [], false)
      ∧ readPlan ([3#8, 10#8, 60#8], false) = some (⟨.leave, 10, 60⟩, [], false)
      ∧ ∀ part, part < 5 → (readControl part defaultControl (writeControl part defaultControl, false)) = some (defaultControl, [], false) := by
  refine ⟨?_, ?_, ?_, ?_, ?_, ?_, ?_, ?_, ?_, ?_, ?_, ?_, ?_⟩ <;> decide +kernel

/-- Each default entry lies within its ranges. -/
theorem witness_EntriesReadBack_ranges :
    defaultZone.InRange ∧ GasEntry.InRange ⟨223, 15⟩ ∧ defaultFan.InRange ∧ ClusterEntry.InRange ⟨223, 2047, 8⟩
      ∧ BayEntry.InRange ⟨63, true⟩ ∧ RowEntry.InRange ⟨7, 15⟩ ∧ LevelEntry.InRange ⟨1000, 999, 900⟩ ∧ PlanEntry.InRange ⟨.leave, 10, 60⟩
      ∧ ResponseEntry.InRange ⟨.retry, .release, 3600, 15⟩ ∧ Control.InRange 0 defaultControl := by
  simp only [ZoneEntry.InRange, GasEntry.InRange, FanEntry.InRange, ClusterEntry.InRange, BayEntry.InRange, RowEntry.InRange,
    LevelEntry.InRange, PlanEntry.InRange, ResponseEntry.InRange, Control.InRange]
  and_intros <;> decide

/-- A state with the evaluation, which is due, at the front of its queue. -/
def evaluating : State := { calm with pending := [.evaluation] }

theorem evaluating_claims : ClaimsAgree evaluating :=
  ⟨rfl, rfl, rfl, rfl, rfl, fun g => by show 0 + 0 ≤ _; simp⟩

theorem witness_ListsStayBounded :
    ∃ t, WithinCapacities evaluating ∧ RepliesBounded evaluating ∧ DeliveryAgrees evaluating ∧ ClaimsAgree evaluating
      ∧ step evaluating = .next t :=
  ⟨_, calm_capacities, calm_replies, calm_delivery, evaluating_claims, rfl⟩

/-- No frame is in flight. -/
theorem witness_QueueAndRecordsAgree_tags : ∃ t, TagsDistinct evaluating ∧ step evaluating = .next t := by
  refine ⟨_, ⟨fun a b f g h => ?_, fun h => nomatch h⟩, rfl⟩
  have e : evaluating.record a = freshDeliveryRecord := fresh_record a
  rw [e] at h; cases h

theorem witness_QueueAndRecordsAgree :
    ∃ t, WithinCapacities evaluating ∧ QueueOrdered evaluating ∧ DeliveryAgrees evaluating ∧ step evaluating = .next t :=
  ⟨_, calm_capacities, calm_ordered, calm_delivery, rfl⟩

theorem witness_FaultListAndAlertHold : ∃ t, FaultListHolds evaluating ∧ AlertExact evaluating ∧ step evaluating = .next t :=
  ⟨_, calm_faults.1, calm_faults.2.1, rfl⟩

theorem witness_PlanLockIsKept : ∃ t, PlanLockHolds evaluating ∧ step evaluating = .next t := ⟨_, calm_faults.2.2, rfl⟩

theorem witness_FreeCountsStayExact : ∃ t, FreeCountsExact evaluating ∧ SettleTimersFollow evaluating ∧ step evaluating = .next t := by
  refine ⟨_, counts_same calm_counts rfl rfl rfl, fun b h => ?_, rfl⟩
  have e : bay evaluating b = freshBay := getAt_replicate _ _ h
  rw [e]; decide

theorem witness_GroupStatesAreKept : ∃ t, GroupStatesFollow evaluating ∧ step evaluating = .next t := ⟨_, calm_groups, rfl⟩

theorem witness_SignsStayCurrent : ∃ t, SignsCurrent evaluating ∧ step evaluating = .next t :=
  ⟨_, signs_same calm_signs rfl rfl rfl rfl, rfl⟩

theorem witness_NodeMapStaysExact : ∃ t, NodeMapExact evaluating ∧ step evaluating = .next t := ⟨_, calm_nodes, rfl⟩

/-! ## Requests served, with their replies -/

/-- What a command's next state shows. -/
def shown {α : Type} (o : Host.Outcome State Fault Refusal) (f : State → α) : Option α :=
  match o with
  | .next t => some (f t)
  | .fault _ => none
  | .refused _ => none

/-- The replies waiting in the insertion queue. -/
def repliesOf (s : State) : List (List Nat) := s.ring.insertion.filterMap fun f =>
  match f.draft.body with
  | .reply p => some (p.map (·.toNat))
  | _ => none

/-- R165, R168: entry 46 is clamped, entry 47 is written, and a third would pass the last index of PLAN. -/
theorem test_put_past_the_end :
    shown (exec .put (asked [2, 12, 0, 46, 2, 101, 5, 3, 10, 60, 0, 50, 0] (aimed 12 46 calm)))
        (fun t => (repliesOf t, getAt t.fire.plan 46, getAt t.fire.plan 47, t.mgmt.cursor))
      = some ([[2, 3, 12, 0, 46, 0, 0, 2, 0, 46]], ⟨.stop, 100, 5⟩, ⟨.leave, 10, 60⟩, ⟨12, 46, 0⟩) := by decide +kernel

/-- 10.13, step 6: two entries remain before the table end, and the index rolls over. -/
theorem test_fetch_to_the_end :
    shown (exec .fetch (asked [3, 3] (aimed 3 46 calm))) (fun t => ((repliesOf t).map (·.take 8), t.mgmt.cursor))
      = some ([[3, 0, 3, 0, 46, 0, 46, 2]], ⟨3, 46, 0⟩) := by decide +kernel

/-- R171: the ring view is returned with DONE. -/
theorem test_state_ring :
    shown (exec .stateRing (asked [5, 7, 0] calm)) (fun t => (repliesOf t).map (·.take 2)) = some [[5, 0]] := by decide +kernel

end Sys2Proof.Tests
end

section
/-! Proofs of the air block's evaluation (R57 to R70): what each operation of an evaluation writes, what the evaluation of one
zone leaves of the others, and the two statements about EVALUATION. -/

namespace Sys2Proof.Machine

/-! ## A walk over all places -/

/-- What the steps before place `j` keep, step `j` turns into a result, and the steps after it keep that result. -/
theorem forEach_establishes {P Q : State → Prop} {f : Nat → State → State} {j : Nat}
    (at_j : ∀ t, P t → Q (f j t)) (s : State) (hs : P s) :
    ∀ n, j < n → (∀ i t, i < n → i ≠ j → P t → P (f i t)) → (∀ i t, i < n → i ≠ j → Q t → Q (f i t)) →
      Q (forEach n f s)
  | 0, h, _, _ => absurd h (Nat.not_lt_zero j)
  | n + 1, h, before, after => by
    rw [forEach_succ]
    by_cases e : n = j
    · subst e
      exact at_j _ (forEach_holds_lt n (fun i t hi => before i t (by omega) (by omega)) s hs)
    · exact after n _ (by omega) e (forEach_establishes at_j s hs n (by omega)
        (fun i t hi => before i t (by omega)) (fun i t hi => after i t (by omega)))

/-! ## Flags -/

/-- A raised flag is set, and no other flag moves. -/
@[simp] theorem raiseFlag_flags (f : Flag) (s : State) :
    (raiseFlag f s).faults.flags = setAt s.faults.flags (flagCode f) true := by
  obtain ⟨hset, h⟩ | ⟨-, -, h⟩ | ⟨-, -, h⟩ := raiseFlag_cases f s
  · have same : getAt s.faults.flags (flagCode f) = true := hset
    rw [h, ← same, setAt_getAt]
  · rw [h]; simp [judgeAlert, noticeRise]
  · rw [h]; rfl

/-- A raised flag is set. -/
theorem flagSet_raiseFlag_self (f : Flag) (s : State) : flagSet (raiseFlag f s) f = true := by
  simp [flagSet, flagCode_lt]

/-- Raising a flag clears none. -/
theorem flagSet_raiseFlag_of_set {s : State} {f : Flag} (g : Flag) (h : flagSet s f = true) :
    flagSet (raiseFlag g s) f = true := by
  by_cases e : g = f
  · subst e; exact flagSet_raiseFlag_self g s
  · have hne : flagCode g ≠ flagCode f := fun hc => e (flagCode_injective hc)
    simpa [flagSet, hne] using h

/-! ## Service states (R137, R140) -/

/-- A service state is read from the fault list and the RESPONSES table alone. -/
theorem serviceOf_congr {s t : State} (hl : t.faults.list = s.faults.list) (ht : t.tables = s.tables) (a : Nat) :
    serviceOf t a = serviceOf s a :=
  calc serviceOf t a
    _ = serviceOf { s with faults := { s.faults with list := t.faults.list }, tables := t.tables } a := rfl
    _ = serviceOf s a := by rw [hl, ht]

/-- A fault record once the condition of a pair has ended (R137). -/
def FaultRecord.afterEnd (c : FaultClass) (addr : Nat) (r : FaultRecord) : FaultRecord :=
  if r.isOf c addr then { r with present := false, state := if r.state = .active then .ended else r.state } else r

/-- The fault list once a condition has ended. -/
theorem endCondition_list (c : FaultClass) (addr : Nat) (s : State) :
    (endCondition c addr s).faults.list = s.faults.list.map (FaultRecord.afterEnd c addr) := rfl

/-- A record keeps its pair, and still holds its address out if it did: only an ACTIVE record changes state. -/
@[simp] theorem FaultRecord.afterEnd_keeps (c : FaultClass) (addr : Nat) (r : FaultRecord) :
    (r.afterEnd c addr).cls = r.cls ∧ (r.afterEnd c addr).addr = r.addr ∧ (r.afterEnd c addr).holdsOut = r.holdsOut := by
  unfold FaultRecord.afterEnd
  split
  · cases h : r.state <;> simp [FaultRecord.holdsOut, h]
  · exact ⟨rfl, rfl, rfl⟩

/-- The end of a condition holds no address out and releases none. -/
@[simp] theorem serviceOf_endCondition (c : FaultClass) (addr : Nat) (s : State) (a : Nat) :
    serviceOf (endCondition c addr s) a = serviceOf s a := by
  have hold : holding (endCondition c addr s) a = (holding s a).map (FaultRecord.afterEnd c addr) := by
    simp [holding, endCondition_list, List.filter_map, Function.comp_def]
  have resp (k : FaultClass) : response (endCondition c addr s) k = response s k := by simp [response]
  simp [serviceOf, hold, resp, Function.comp_def]

/-- Ending a fan's tested condition changes no service state. -/
@[simp] theorem serviceOf_clearTest (addr i : Nat) (x : FanTest) (s : State) (a : Nat) :
    serviceOf (clearTest addr i x s) a = serviceOf s a := by
  have h : serviceOf (modFan i (fun r => r.setTest x freshDeglitch) s) a = serviceOf s a := serviceOf_congr rfl rfl a
  simp only [clearTest]
  split
  · rw [serviceOf_endCondition, h]
  · exact h

/-- Setting a fan changes no service state. -/
@[simp] theorem serviceOf_setFan (i : Nat) (x : FanSetting) (s : State) (a : Nat) :
    serviceOf (setFan i x s) a = serviceOf s a := by
  have h : serviceOf (modFan i (fun r => { r with commanded := x }) s) a = serviceOf s a := serviceOf_congr rfl rfl a
  have hd (u : State) : serviceOf (setDesired (.fan i) (.fan x) u) a = serviceOf u a :=
    serviceOf_congr (by simp) (by simp) a
  simp only [setFan]
  rw [hd]
  split
  · simpa only [clearTests, serviceOf_clearTest] using h
  · exact h

/-- The allocation of one fan changes no service state. -/
@[simp] theorem serviceOf_allocateFan (sp i : Nat) (s : State) (a : Nat) :
    serviceOf (allocateFan sp i s) a = serviceOf s a := by
  simp only [allocateFan, stopFan]
  repeat' split
  all_goals simp only [serviceOf_setFan]

/-- Writing a zone's SHORTFALL flag changes no service state. -/
@[simp] theorem serviceOf_setShortfall (z : Nat) (on : Bool) (s : State) (a : Nat) :
    serviceOf (setShortfall z on s) a = serviceOf s a := serviceOf_congr (by simp) (by simp) a

/-- The GAS_HIGH cause changes no service state. -/
@[simp] theorem serviceOf_judgeGasHigh (z : Nat) (s : State) (a : Nat) :
    serviceOf (judgeGasHigh z s) a = serviceOf s a := serviceOf_congr (by simp) (by simp) a

/-- The allocation of a zone changes no service state. -/
@[simp] theorem serviceOf_allocate (z p : Nat) (s : State) (a : Nat) : serviceOf (allocate z p s) a = serviceOf s a := by
  unfold allocate
  exact forList_holds (P := fun t => serviceOf t a = serviceOf s a) (fun i t h => by simpa using h) _ _ (by simp)

/-- The evaluation of a zone changes no service state. -/
@[simp] theorem serviceOf_evaluateZone (z : Nat) (s : State) (a : Nat) : serviceOf (evaluateZone z s) a = serviceOf s a := by
  have hl (u : State) : serviceOf (lightAir z u) a = serviceOf u a := serviceOf_congr (by simp) (by simp) a
  have hz : serviceOf (modZone z (fun _ => evaluated s z) s) a = serviceOf s a := serviceOf_congr rfl rfl a
  simp only [evaluateZone, hl, serviceOf_judgeGasHigh, serviceOf_allocate, hz]

/-! ## The causes of the luminaire groups (R122) -/

/-- A group record whose causes become `c` (R122). -/
def GroupRecord.withCauses (e : GroupEntry) (c : Causes) (r : GroupRecord) : GroupRecord :=
  let t := { r with causes := c }
  if !r.causes.any && c.any then t.go e .forced
  else if r.causes.any && !c.any then t.go e (if r.holdTimer.isSome then .hold else .base)
  else t

/-- A change of causes writes state, target and causes alone. -/
@[simp] theorem GroupRecord.withCauses_fields (e : GroupEntry) (c : Causes) (r : GroupRecord) :
    (r.withCauses e c).causes = c ∧ (r.withCauses e c).holdTimer = r.holdTimer ∧ (r.withCauses e c).output = r.output := by
  simp only [GroupRecord.withCauses]
  repeat' split
  all_goals exact ⟨rfl, rfl, rfl⟩

/-- The group whose causes are set. -/
@[simp] theorem group_setCauses_self (i : Nat) (c : Causes) (s : State) (hi : i < 96) :
    group (setCauses i c s) i = (group s i).withCauses (groupEntry s i) c := getAt_modAt_self _ _ _ hi

/-- Every other group. -/
@[simp] theorem group_setCauses_ne (i j : Nat) (c : Causes) (s : State) (h : i ≠ j) :
    group (setCauses i c s) j = group s j := getAt_modAt_ne _ _ _ _ h

/-- The groups after a hand-over that gives each group of a zone causes by the tables, the air block and its own causes. -/
theorem group_handOver (z : Nat) (c : State → Causes → Causes)
    (reads : ∀ t u : State, t.tables = u.tables → t.air = u.air → c t = c u) (i : Nat) (hi : i < 96) (s : State) :
    group (forEach 96 (fun i t =>
        if (groupEntry t i).zone = z then setCauses i (c t (group t i).causes) t else t) s) i
      = if (groupEntry s i).zone = z then (group s i).withCauses (groupEntry s i) (c s (group s i).causes)
        else group s i := by
  obtain ⟨t, same, h⟩ := forEach_at (fun t => (group t i, t.tables, t.air))
    (fun i t => if (groupEntry t i).zone = z then setCauses i (c t (group t i).causes) t else t) i
    (fun k t hk => by split <;> simp [hk]) 96 s hi
  obtain ⟨hg, ht, ha⟩ : group t i = group s i ∧ t.tables = s.tables ∧ t.air = s.air := by simpa using same
  have he : groupEntry t i = groupEntry s i := by simp only [groupEntry, ht]
  refine (congrArg Prod.fst h).trans ?_
  rw [he]
  split
  · rw [group_setCauses_self _ _ _ hi, he, hg, reads t s ht ha]
  · exact hg

/-- The groups after the lighting hand-over of a zone's air index. -/
theorem group_lightAir (z i : Nat) (hi : i < 96) (s : State) :
    group (lightAir z s) i = if (groupEntry s i).zone = z then
        (group s i).withCauses (groupEntry s i) { (group s i).causes with air := airForces s z }
      else group s i :=
  group_handOver z (fun t c => { c with air := airForces t z })
    (fun t u ht ha => by simp only [airForces, ht, ha]) i hi s

/-- The groups after the lighting hand-over of a zone's SHORTFALL flag. -/
theorem group_lightShortfall (z i : Nat) (hi : i < 96) (s : State) :
    group (lightShortfall z s) i = if (groupEntry s i).zone = z then
        (group s i).withCauses (groupEntry s i) { (group s i).causes with shortfall := (getAt s.air.zones z).shortfall }
      else group s i :=
  group_handOver z (fun t c => { c with shortfall := (getAt t.air.zones z).shortfall })
    (fun t u _ ha => by simp only [ha]) i hi s

/-! ## Level closure (R108 to R110) -/

/-- The AIR reason of a level after a judgement, from what it was (R109). -/
def airReason (s : State) (l : Nat) (was : Bool) : Bool :=
  if (zonesOf s l).any fun z => decide ((getAt s.tables.levels l).closure ≤ (getAt s.air.zones z).airIndex) then true
  else if (zonesOf s l).all fun z => decide ((getAt s.air.zones z).airIndex < (getAt s.tables.levels l).release) then false
  else was

/-- A zone of the level is in shortfall (R110). -/
def levelShort (s : State) (l : Nat) : Bool := (zonesOf s l).any fun z => (getAt s.air.zones z).shortfall

/-- Both judgements read the tables and the air block alone. -/
theorem closure_congr {s t : State} (ht : t.tables = s.tables) (ha : t.air = s.air) :
    airReason t = airReason s ∧ levelShort t = levelShort s := by
  have airs : airReason t = airReason { s with tables := t.tables, air := t.air } := rfl
  have shorts : levelShort t = levelShort { s with tables := t.tables, air := t.air } := rfl
  rw [airs, shorts, ht, ha]
  exact ⟨rfl, rfl⟩

/-- A zone is of a level when its entry names it. -/
@[simp] theorem mem_zonesOf (s : State) (l z : Nat) : z ∈ zonesOf s l ↔ z < 16 ∧ (getAt s.tables.zones z).level = l := by
  simp [zonesOf]

/-- A level's changed reasons. -/
@[simp] theorem modReasons_levels (l : Nat) (f : Reasons → Reasons) (s : State) :
    (modReasons l f s).guide.levels = modAt s.guide.levels l fun r => { r with reasons := f r.reasons } := rfl

/-- The AIR reason of one level is judged. -/
theorem judgeAirLevel_levels (l : Nat) (s : State) :
    (judgeAirLevel l s).guide.levels
      = modAt s.guide.levels l fun r => { r with reasons := { r.reasons with air := airReason s l r.reasons.air } } := by
  simp only [judgeAirLevel, airReason]
  split
  · rfl
  · split
    · rfl
    · exact (setAt_getAt _ _).symm

/-- A level after the SHORTFALL reasons are judged. -/
theorem judgeShortfall_level (l : Nat) (hl : l < 8) (s : State) :
    getAt (judgeShortfall s).guide.levels l =
      { getAt s.guide.levels l with
        reasons := { (getAt s.guide.levels l).reasons with shortfall := levelShort s l } } := by
  obtain ⟨t, same, h⟩ := forEach_at (fun t => (getAt t.guide.levels l, t.tables, t.air))
    (fun l t => modReasons l (fun r => { r with shortfall := levelShort t l }) t) l
    (fun k t hk => by simp [hk]) 8 s hl
  obtain ⟨hg, ht, ha⟩ : getAt t.guide.levels l = getAt s.guide.levels l ∧ t.tables = s.tables ∧ t.air = s.air := by
    simpa using same
  refine (congrArg Prod.fst h).trans ?_
  simp [hl, hg, (closure_congr ht ha).2]

/-- A level after the AIR reasons are judged. -/
theorem judgeAirLevels_level (l : Nat) (hl : l < 8) (s : State) :
    getAt (forEach 8 judgeAirLevel s).guide.levels l =
      { getAt s.guide.levels l with
        reasons := { (getAt s.guide.levels l).reasons with air := airReason s l (getAt s.guide.levels l).reasons.air } } := by
  obtain ⟨t, same, h⟩ := forEach_at (fun t => (getAt t.guide.levels l, t.tables, t.air)) judgeAirLevel l
    (fun k t hk => by simp [hk, judgeAirLevel_levels]) 8 s hl
  obtain ⟨hg, ht, ha⟩ : getAt t.guide.levels l = getAt s.guide.levels l ∧ t.tables = s.tables ∧ t.air = s.air := by
    simpa using same
  refine (congrArg Prod.fst h).trans ?_
  simp [hl, hg, (closure_congr ht ha).1, judgeAirLevel_levels]

/-- A level after the air index hand-over. -/
theorem judgeClosure_level (l : Nat) (hl : l < 8) (s : State) :
    getAt (judgeClosure s).guide.levels l =
      { getAt s.guide.levels l with
        reasons := { (getAt s.guide.levels l).reasons with
          air := airReason s l (getAt s.guide.levels l).reasons.air, shortfall := levelShort s l } } := by
  have hc : levelShort (forEach 8 judgeAirLevel s) = levelShort s := (closure_congr (by simp) (by simp)).2
  rw [judgeClosure, judgeShortfall_level l hl, judgeAirLevels_level l hl, hc]

/-! ## The air index (R57, R58) -/

/-- The index of a sensor is the largest of its parts. -/
theorem sensorIndex_eq_some (e : ZoneEntry) (r : SensorRecord) (x : Nat) :
    sensorIndex e r = some x ↔
      (r.co.map (indexPart e.coFull) = some x ∨ r.no2.map (indexPart e.no2Full) = some x)
        ∧ (∀ y, r.co.map (indexPart e.coFull) = some y → y ≤ x)
        ∧ ∀ y, r.no2.map (indexPart e.no2Full) = some y → y ≤ x := by
  unfold sensorIndex
  cases hc : r.co <;> cases hn : r.no2 <;>
    simp only [Option.map_some, Option.map_none, Option.some.injEq, reduceCtorEq, false_or, or_false,
      false_imp_iff, implies_true, and_true, true_and, forall_eq']
  all_goals omega

/-- A sensor is usable with an index (R57). -/
theorem usableIndex_eq_some (s : State) (z i x : Nat) :
    usableIndex s z i = some x ↔
      (getAt s.tables.gasSensors i).zone = z ∧ (getAt s.tables.gasSensors i).addr ≠ 0
        ∧ (node s (getAt s.tables.gasSensors i).addr).liveness = .live ∧ (getAt s.air.sensors i).lastStatus = some .ok
        ∧ serviceOf s (getAt s.tables.gasSensors i).addr = .inService
        ∧ sensorIndex (getAt s.tables.zones z) (getAt s.air.sensors i) = some x := by
  simp [usableIndex, outOfService, node, and_assoc]

/-- The usable sensors are the entries that are usable, each with its index. -/
theorem mem_usableSensors (s : State) (z i x : Nat) :
    (i, x) ∈ usableSensors s z ↔ i < 64 ∧ usableIndex s z i = some x := by
  simp [usableSensors]

/-- The usable sensors stand in the order of their entries. -/
theorem usableSensors_sorted (s : State) (z : Nat) : (usableSensors s z).Pairwise fun p q => p.1 < q.1 := by
  refine List.pairwise_lt_range.filterMap _ fun i j lt p hp q hq => ?_
  simp only [Option.map_eq_some_iff] at hp hq
  obtain ⟨x, -, rfl⟩ := hp
  obtain ⟨y, -, rfl⟩ := hq
  exact lt

/-- Without sensors there is no best one. -/
@[simp] theorem bestSensor_eq_none (us : List (Nat × Nat)) : bestSensor us = none ↔ us = [] := by
  cases us with
  | nil => simp [bestSensor]
  | cons p us =>
    simp only [bestSensor]
    repeat' split
    all_goals simp

/-- The best sensor is the first of those with the largest index. -/
theorem bestSensor_first : ∀ {us : List (Nat × Nat)} {p : Nat × Nat}, us.Pairwise (fun p q => p.1 < q.1) →
    bestSensor us = some p → p ∈ us ∧ ∀ q ∈ us, q.2 ≤ p.2 ∧ (q.2 = p.2 → p.1 ≤ q.1)
  | [], _, _, h => by simp [bestSensor] at h
  | u :: us, p, sorted, h => by
    obtain ⟨lower, sorted⟩ := List.pairwise_cons.mp sorted
    simp only [bestSensor] at h
    split at h
    · next hn =>
      obtain rfl : u = p := by simpa using h
      simp [(bestSensor_eq_none us).mp hn]
    · next q hq =>
      obtain ⟨mem, best⟩ := bestSensor_first sorted hq
      split at h
      · next lt =>
        obtain rfl : q = p := by simpa using h
        refine ⟨List.mem_cons_of_mem _ mem, List.forall_mem_cons.mpr ⟨⟨by omega, by omega⟩, best⟩⟩
      · next le =>
        obtain rfl : u = p := by simpa using h
        refine ⟨List.mem_cons_self, List.forall_mem_cons.mpr ⟨⟨Nat.le_refl _, fun _ => Nat.le_refl _⟩, fun v hv => ?_⟩⟩
        exact ⟨by have := (best v hv).1; omega, fun _ => Nat.le_of_lt (lower v hv)⟩

/-! ## Traffic load and stage (R62 to R66) -/

/-- The load an evaluation leaves (R62): at decay 255 that is the load divided by 256, rounded up, of a load above 1. -/
theorem decayed_of_255 {e : ZoneEntry} {load : Nat} (he : e.decay = 255) (hl : 1 < load) :
    decayed e load = (load + 255) / 256 := by
  rw [decayed, he]; omega

/-- A decay of at most 255 takes no more than the load. -/
theorem decay_le_load {e : ZoneEntry} {load : Nat} (he : e.decay ≤ 255) (hl : 0 < load) :
    max (load * e.decay / 256) 1 ≤ load := by
  have : load * e.decay ≤ load * 255 := Nat.mul_le_mul_left load he
  omega

/-- The up threshold above a stage: that of the next stage, and of HIGH its own (R65). -/
def upThreshold (e : ZoneEntry) : Stage → Nat
  | .off => e.up1 | .low => e.up2 | .mid => e.up3 | .high => e.up3

/-- With the thresholds in order, a stage rises exactly when the demand reaches the threshold above it (R65). -/
theorem rank_lt_reached {e : ZoneEntry} (h : zoneOrdered e = true) (st : Stage) (demand : Nat) :
    st.rank < (reached e demand).rank ↔ st ≠ .high ∧ upThreshold e st ≤ demand := by
  have order : e.up1 < e.up2 ∧ e.up2 < e.up3 := by simp_all [zoneOrdered]
  unfold reached
  cases st <;> simp only [upThreshold]
  all_goals (repeat' split) <;> simp [Stage.rank] <;> omega

/-- A stage that rises goes to the highest one whose threshold the demand reaches, and the dwell count starts anew (R65). -/
theorem nextStage_rises {e : ZoneEntry} (h : zoneOrdered e = true) {st : Stage} {demand : Nat} (dwell : Nat)
    (hs : st ≠ .high) (hd : upThreshold e st ≤ demand) : nextStage e demand st dwell = (reached e demand, 0) := by
  rw [nextStage, if_pos ((rank_lt_reached h st demand).mpr ⟨hs, hd⟩)]

/-- The down threshold of a stage; OFF, which has none, counts with that of LOW (R66). -/
def downThreshold (e : ZoneEntry) : Stage → Nat
  | .high => e.dn3 | .mid => e.dn2 | .low => e.dn1 | .off => e.dn1

/-- The stage below a stage (R66). -/
def stageBelow : Stage → Stage
  | .high => .mid | .mid => .low | .low => .off | .off => .off

/-- A stage that does not rise falls by one when the demand and the dwell count allow it, and stays otherwise (R66). -/
theorem nextStage_falls {e : ZoneEntry} (h : zoneOrdered e = true) {st : Stage} {demand : Nat} (dwell : Nat)
    (hs : st = .high ∨ demand < upThreshold e st) :
    nextStage e demand st dwell =
      if st ≠ .off ∧ demand < downThreshold e st ∧ e.dwell ≤ dwell then (stageBelow st, 0)
      else (st, min 20 (dwell + 1)) := by
  have stays : ¬ st.rank < (reached e demand).rank := fun c => by
    obtain ⟨ne, le⟩ := (rank_lt_reached h st demand).mp c
    exact hs.elim ne (by omega)
  rw [nextStage, if_neg stays]
  cases st <;> simp [fallOf, downThreshold, stageBelow]

/-! ## The evaluation of one zone (R57 to R70) -/

/-- The SHORTFALL flag of a zone at the allocation of its new airflow (R77). -/
def zoneShortfall (s : State) (z : Nat) : Bool :=
  (targetSpeed (autoShare s z (evaluated s z).airflow) (available s z)).2

/-- The zone's new air index reaches its alarm index (R68). -/
def alarmed (s : State) (z : Nat) : Bool := decide ((getAt s.tables.zones z).alarm ≤ (evaluated s z).airIndex)

/-- The record the evaluation of a zone leaves. -/
def workedZone (s : State) (z : Nat) : ZoneRecord :=
  { evaluated s z with shortfall := zoneShortfall s z, gasHigh := alarmed s z }

/-- The zone records after a SHORTFALL flag is written, changed or not. -/
@[simp] theorem setShortfall_zones (z : Nat) (on : Bool) (s : State) :
    (setShortfall z on s).air.zones = modAt s.air.zones z fun r => { r with shortfall := on } := by
  simp only [setShortfall]
  split
  · next same => rw [← same]; exact (setAt_getAt _ _).symm
  · simp

/-- A group after its zone's SHORTFALL flag is written: a change of the flag is handed over, and nothing else. -/
theorem group_setShortfall (z i : Nat) (on : Bool) (hz : z < 16) (hi : i < 96) (s : State) :
    group (setShortfall z on s) i =
      if (getAt s.air.zones z).shortfall ≠ on ∧ (groupEntry s i).zone = z then
        (group s i).withCauses (groupEntry s i) { (group s i).causes with shortfall := on }
      else group s i := by
  simp only [setShortfall]
  split
  · next same => simp [same]
  · next changed =>
    have hg (t : State) (h : t.light = s.light) : group t i = group s i := by simp only [group, h]
    have he (t : State) (h : t.tables = s.tables) : groupEntry t i = groupEntry s i := by simp only [groupEntry, h]
    rw [group_lightShortfall z i hi, hg _ (by simp), he _ (by simp)]
    simp [changed, hz]

/-- The allocation of a zone writes of the air block and of the groups what its SHORTFALL flag writes. -/
theorem allocate_reads (z p : Nat) (s : State) :
    (allocate z p s).air = (setShortfall z (targetSpeed (autoShare s z p) (available s z)).2 s).air
      ∧ (allocate z p s).light = (setShortfall z (targetSpeed (autoShare s z p) (available s z)).2 s).light
      ∧ (allocate z p s).guide = (setShortfall z (targetSpeed (autoShare s z p) (available s z)).2 s).guide
      ∧ (allocate z p s).faults.flags = (setShortfall z (targetSpeed (autoShare s z p) (available s z)).2 s).faults.flags := by
  simp [allocate]

/-- A flag that is set stays set when a zone's SHORTFALL flag is written. -/
theorem flagSet_setShortfall {s : State} {f : Flag} (z : Nat) (on : Bool) (h : flagSet s f = true) :
    flagSet (setShortfall z on s) f = true := by
  have hf : flagSet (faultsShortfall z on (modZone z (fun r => { r with shortfall := on }) s)) f = true := by
    simp only [faultsShortfall]
    split
    · exact flagSet_raiseFlag_of_set .shortfall h
    · exact h
  simp only [setShortfall]
  split
  · exact h
  · simpa [flagSet] using hf

/-- The zone records after the GAS_HIGH cause is set. -/
@[simp] theorem judgeGasHigh_zones (z : Nat) (s : State) :
    (judgeGasHigh z s).air.zones = modAt s.air.zones z fun r =>
      { r with gasHigh := decide ((getAt s.tables.zones z).alarm ≤ (getAt s.air.zones z).airIndex) } := by
  simp only [judgeGasHigh]
  split <;> simp

/-- The GAS_HIGH causes of the fault block after that of a zone is set. -/
@[simp] theorem judgeGasHigh_gasHigh (z : Nat) (s : State) :
    (judgeGasHigh z s).faults.gasHigh
      = setAt s.faults.gasHigh z (decide ((getAt s.tables.zones z).alarm ≤ (getAt s.air.zones z).airIndex)) := by
  simp only [judgeGasHigh]
  split <;> simp

/-- A GAS_HIGH cause sets the GAS_HIGH flag. -/
theorem flagSet_judgeGasHigh_self (z : Nat) (s : State)
    (h : (getAt s.tables.zones z).alarm ≤ (getAt s.air.zones z).airIndex) : flagSet (judgeGasHigh z s) .gasHigh = true := by
  simp [judgeGasHigh, h, flagSet_raiseFlag_self]

/-- A flag that is set stays set when a GAS_HIGH cause is set. -/
theorem flagSet_judgeGasHigh {s : State} {f : Flag} (z : Nat) (h : flagSet s f = true) :
    flagSet (judgeGasHigh z s) f = true := by
  simp only [judgeGasHigh]
  split
  · exact flagSet_raiseFlag_of_set .gasHigh h
  · exact h

/-- The state in which the evaluation of a zone writes its SHORTFALL flag: the new record is in place. -/
def withEvaluated (z : Nat) (s : State) : State := modZone z (fun _ => evaluated s z) s

/-- The state in which the evaluation of a zone judges its air index: only fans have been set since the flag was written. -/
def allocated (z : Nat) (s : State) : State := allocate z (evaluated s z).airflow (withEvaluated z s)

/-- The evaluation of a zone, in its steps. -/
theorem evaluateZone_eq (z : Nat) (s : State) : evaluateZone z s = lightAir z (judgeGasHigh z (allocated z s)) := rfl

/-- The blocks after the allocation, from the record in place before it. -/
theorem allocated_reads (z : Nat) (s : State) :
    (allocated z s).air = (setShortfall z (zoneShortfall s z) (withEvaluated z s)).air
      ∧ (allocated z s).light = (setShortfall z (zoneShortfall s z) (withEvaluated z s)).light
      ∧ (allocated z s).guide = (setShortfall z (zoneShortfall s z) (withEvaluated z s)).guide
      ∧ (allocated z s).faults.flags = (setShortfall z (zoneShortfall s z) (withEvaluated z s)).faults.flags
      ∧ (allocated z s).tables = s.tables := by
  obtain ⟨hair, hlight, hguide, hflags⟩ := allocate_reads z (evaluated s z).airflow (withEvaluated z s)
  exact ⟨hair, hlight, hguide, hflags, by simp [allocated, withEvaluated]⟩

/-- The zone's own record after the allocation. -/
theorem allocated_zone_self (z : Nat) (hz : z < 16) (s : State) :
    getAt (allocated z s).air.zones z = { evaluated s z with shortfall := zoneShortfall s z } := by
  simp [(allocated_reads z s).1, withEvaluated, hz]

/-- The zone's own record after its evaluation. -/
theorem evaluateZone_zone_self (z : Nat) (hz : z < 16) (s : State) :
    getAt (evaluateZone z s).air.zones z = workedZone s z := by
  obtain ⟨-, -, -, -, htables⟩ := allocated_reads z s
  simp [evaluateZone_eq, hz, allocated_zone_self, htables, workedZone, alarmed]

/-- Every other zone's record. -/
theorem evaluateZone_zone_ne (z y : Nat) (h : z ≠ y) (s : State) :
    getAt (evaluateZone z s).air.zones y = getAt s.air.zones y := by
  simp [evaluateZone_eq, (allocated_reads z s).1, withEvaluated, h]

/-- The GAS_HIGH cause after the zone's evaluation. -/
theorem evaluateZone_gasHigh_self (z : Nat) (hz : z < 16) (s : State) :
    getAt (evaluateZone z s).faults.gasHigh z = alarmed s z := by
  obtain ⟨-, -, -, -, htables⟩ := allocated_reads z s
  simp [evaluateZone_eq, hz, allocated_zone_self, htables, alarmed]

/-- The GAS_HIGH cause of every other zone. -/
theorem evaluateZone_gasHigh_ne (z y : Nat) (h : z ≠ y) (s : State) :
    getAt (evaluateZone z s).faults.gasHigh y = getAt s.faults.gasHigh y := by
  simp [evaluateZone_eq, h, allocated, withEvaluated]

/-- An alarmed zone leaves the GAS_HIGH flag set. -/
theorem evaluateZone_flag_self (z : Nat) (hz : z < 16) (s : State) (h : alarmed s z = true) :
    flagSet (evaluateZone z s) .gasHigh = true := by
  obtain ⟨-, -, -, -, htables⟩ := allocated_reads z s
  have high : (getAt (allocated z s).tables.zones z).alarm ≤ (getAt (allocated z s).air.zones z).airIndex := by
    simpa [htables, allocated_zone_self, hz, alarmed] using h
  simpa [evaluateZone_eq, flagSet] using flagSet_judgeGasHigh_self z _ high

/-- The evaluation of a zone clears no flag. -/
theorem evaluateZone_flag_of_set {s : State} {f : Flag} (z : Nat) (h : flagSet s f = true) :
    flagSet (evaluateZone z s) f = true := by
  obtain ⟨-, -, -, hflags, -⟩ := allocated_reads z s
  have short : flagSet (allocated z s) f = true := by
    have := flagSet_setShortfall (s := withEvaluated z s) z (zoneShortfall s z) h
    rwa [flagSet, ← hflags] at this
  simpa [evaluateZone_eq, flagSet] using flagSet_judgeGasHigh z short

/-- A group of the zone after the allocation. -/
theorem group_allocated (z i : Nat) (hz : z < 16) (hi : i < 96) (s : State) :
    group (allocated z s) i =
      if (getAt s.air.zones z).shortfall ≠ zoneShortfall s z ∧ (groupEntry s i).zone = z then
        (group s i).withCauses (groupEntry s i) { (group s i).causes with shortfall := zoneShortfall s z }
      else group s i := by
  obtain ⟨-, hlight, -⟩ := allocated_reads z s
  have kept : (getAt (withEvaluated z s).air.zones z).shortfall = (getAt s.air.zones z).shortfall := by
    simp [withEvaluated, hz, evaluated]
  rw [group, hlight, ← group, group_setShortfall z i _ hz hi, kept]
  rfl

/-- A group of another zone after the evaluation of a zone. -/
theorem evaluateZone_group_ne (z i : Nat) (hz : z < 16) (hi : i < 96) (s : State) (h : (groupEntry s i).zone ≠ z) :
    group (evaluateZone z s) i = group s i := by
  obtain ⟨-, -, -, -, htables⟩ := allocated_reads z s
  have he : groupEntry (judgeGasHigh z (allocated z s)) i = groupEntry s i := by simp [groupEntry, htables]
  have hg : group (judgeGasHigh z (allocated z s)) i = group (allocated z s) i := by simp [group]
  rw [evaluateZone_eq, group_lightAir z i hi, he, if_neg h, hg, group_allocated z i hz hi, if_neg (fun c => h c.2)]

/-- The causes that the evaluation of its zone gives a group, from the zone's new SHORTFALL flag and its old causes (R122). -/
def zoneCauses (s : State) (z : Nat) (short : Bool) (c : Causes) : Causes :=
  { c with
    air := decide ((getAt s.tables.zones z).lightForce ≤ (evaluated s z).airIndex)
    shortfall := if short = (getAt s.air.zones z).shortfall then c.shortfall else short }

/-- A group of the zone after its evaluation. -/
theorem evaluateZone_group_self (z i : Nat) (hz : z < 16) (hi : i < 96) (s : State) (h : (groupEntry s i).zone = z) :
    (group (evaluateZone z s) i).causes = zoneCauses s z (zoneShortfall s z) (group s i).causes
      ∧ (group (evaluateZone z s) i).holdTimer = (group s i).holdTimer
      ∧ (group (evaluateZone z s) i).output = (group s i).output := by
  obtain ⟨-, -, -, -, htables⟩ := allocated_reads z s
  have he : groupEntry (judgeGasHigh z (allocated z s)) i = groupEntry s i := by simp [groupEntry, htables]
  have hg : group (judgeGasHigh z (allocated z s)) i = group (allocated z s) i := by simp [group]
  have forced : airForces (judgeGasHigh z (allocated z s)) z
      = decide ((getAt s.tables.zones z).lightForce ≤ (evaluated s z).airIndex) := by
    simp [airForces, hz, allocated_zone_self, htables, evaluated]
  rw [evaluateZone_eq, group_lightAir z i hi, he, if_pos h, hg, forced, group_allocated z i hz hi]
  by_cases same : zoneShortfall s z = (getAt s.air.zones z).shortfall
  · simp [same, zoneCauses]
  · simp [same, Ne.symm same, h, zoneCauses]

/-- A level after the evaluation of a zone: its SHORTFALL reason is judged if the zone's flag changes. -/
theorem evaluateZone_level (z l : Nat) (hl : l < 8) (s : State) :
    ∃ b, getAt (evaluateZone z s).guide.levels l =
      { getAt s.guide.levels l with reasons := { (getAt s.guide.levels l).reasons with shortfall := b } } := by
  obtain ⟨-, -, hguide, -⟩ := allocated_reads z s
  have judged (u : State) (hu : u.guide = s.guide) : ∃ b, getAt (judgeShortfall u).guide.levels l =
      { getAt s.guide.levels l with reasons := { (getAt s.guide.levels l).reasons with shortfall := b } } :=
    ⟨levelShort u l, by rw [judgeShortfall_level l hl, hu]⟩
  have hg : (evaluateZone z s).guide = (setShortfall z (zoneShortfall s z) (withEvaluated z s)).guide := by
    simp [evaluateZone_eq, hguide]
  rw [hg]
  simp only [setShortfall]
  split
  · exact ⟨_, rfl⟩
  · simp only [lightShortfall_frame]
    exact judged _ (by simp [withEvaluated])

/-! ## All zones (R69, R70) -/

/-- What the evaluation of zone `z` reads, and the groups it writes, stand in `t` as in `s`; of its fans nothing is said. -/
structure ZoneUntouched (s : State) (z : Nat) (t : State) : Prop where
  tables : t.tables = s.tables
  nodes : t.nodes = s.nodes
  sensors : t.air.sensors = s.air.sensors
  services : ∀ a, serviceOf t a = serviceOf s a
  record : getAt t.air.zones z = getAt s.air.zones z
  groups : ∀ i, i < 96 → (groupEntry s i).zone = z → group t i = group s i

/-- In `t` zone `z` has been evaluated from `s`: its record, its GAS_HIGH cause and flag, and the causes of its groups. -/
structure ZoneWorked (s : State) (z : Nat) (t : State) : Prop where
  tables : t.tables = s.tables
  record : getAt t.air.zones z =
    { evaluated s z with shortfall := (getAt t.air.zones z).shortfall, gasHigh := alarmed s z }
  gasHigh : getAt t.faults.gasHigh z = alarmed s z
  flag : alarmed s z = true → flagSet t .gasHigh = true
  groups : ∀ i, i < 96 → (groupEntry s i).zone = z →
    (group t i).causes = zoneCauses s z (getAt t.air.zones z).shortfall (group s i).causes
      ∧ (group t i).holdTimer = (group s i).holdTimer ∧ (group t i).output = (group s i).output

/-- An entry of a group is read from the tables. -/
theorem groupEntry_congr {s t : State} (h : t.tables = s.tables) : groupEntry t = groupEntry s := by
  funext i; simp only [groupEntry, h]

/-- An untouched zone has the usable sensors it had. -/
theorem ZoneUntouched.usable_eq {s t : State} {z : Nat} (h : ZoneUntouched s z t) : usableSensors t z = usableSensors s z := by
  have index (i : Nat) : usableIndex t z i = usableIndex s z i := Option.ext fun x => by
    simp only [usableIndex_eq_some, node, h.tables, h.nodes, h.sensors, h.services]
  simp only [usableSensors, index]

/-- The evaluation of an untouched zone works out what it would have before the others. -/
theorem ZoneUntouched.evaluated_eq {s t : State} {z : Nat} (h : ZoneUntouched s z t) :
    evaluated t z = evaluated s z := by
  simp only [evaluated, h.usable_eq, h.tables, h.record]

/-- The evaluation of another zone leaves a zone untouched. -/
theorem ZoneUntouched.evaluateZone_ne {s t : State} {z y : Nat} (hy : y < 16) (ne : y ≠ z) (h : ZoneUntouched s z t) :
    ZoneUntouched s z (evaluateZone y t) where
  tables := by simp [h.tables]
  nodes := by simp [h.nodes]
  sensors := by simp [h.sensors]
  services a := by simp [h.services]
  record := (evaluateZone_zone_ne y z ne t).trans h.record
  groups i hi hz := by
    have other : (groupEntry t i).zone ≠ y := by rw [groupEntry_congr h.tables, hz]; exact ne.symm
    rw [evaluateZone_group_ne y i hy hi t other, h.groups i hi hz]

/-- The evaluation of an untouched zone. -/
theorem ZoneUntouched.evaluateZone_self {s t : State} {z : Nat} (hz : z < 16) (h : ZoneUntouched s z t) :
    ZoneWorked s z (evaluateZone z t) := by
  have high : alarmed t z = alarmed s z := by simp only [alarmed, h.evaluated_eq, h.tables]
  have causes (b : Bool) : zoneCauses t z b = zoneCauses s z b := by
    funext c; simp only [zoneCauses, h.evaluated_eq, h.tables, h.record]
  have zone : getAt (evaluateZone z t).air.zones z = workedZone t z := evaluateZone_zone_self z hz t
  have short : (getAt (evaluateZone z t).air.zones z).shortfall = zoneShortfall t z := by rw [zone]; rfl
  refine ⟨by simp [h.tables], ?_, ?_, fun ha => ?_, fun i hi hg => ?_⟩
  · rw [short, zone, workedZone, h.evaluated_eq, high]
  · rw [evaluateZone_gasHigh_self z hz, high]
  · exact evaluateZone_flag_self z hz t (high.trans ha)
  · have own : (groupEntry t i).zone = z := by rw [groupEntry_congr h.tables, hg]
    rw [short, ← causes, ← h.groups i hi hg]
    exact evaluateZone_group_self z i hz hi t own

/-- The evaluation of another zone leaves a zone worked. -/
theorem ZoneWorked.evaluateZone_ne {s t : State} {z y : Nat} (hy : y < 16) (ne : y ≠ z) (h : ZoneWorked s z t) :
    ZoneWorked s z (evaluateZone y t) := by
  have zone : getAt (evaluateZone y t).air.zones z = getAt t.air.zones z := evaluateZone_zone_ne y z ne t
  refine ⟨by simp [h.tables], ?_, ?_, fun ha => ?_, fun i hi hg => ?_⟩
  · rw [zone]; exact h.record
  · rw [evaluateZone_gasHigh_ne y z ne]; exact h.gasHigh
  · exact evaluateZone_flag_of_set y (h.flag ha)
  · have other : (groupEntry t i).zone ≠ y := by rw [groupEntry_congr h.tables, hg]; exact ne.symm
    rw [zone, evaluateZone_group_ne y i hy hi t other]
    exact h.groups i hi hg

/-- What touches neither tables nor air, lighting and fault block leaves a zone worked. -/
theorem ZoneWorked.of_same {s t u : State} {z : Nat} (h : ZoneWorked s z t) (ht : u.tables = t.tables) (ha : u.air = t.air)
    (hl : u.light = t.light) (hf : u.faults = t.faults) : ZoneWorked s z u := by
  obtain ⟨tables, record, gasHigh, flag, groups⟩ := h
  have hg (i : Nat) : group u i = group t i := by simp only [group, hl]
  refine ⟨ht.trans tables, ?_, ?_, fun h => ?_, fun i hi hz => ?_⟩
  · rw [ha]; exact record
  · rw [hf]; exact gasHigh
  · rw [flagSet, hf]; exact flag h
  · rw [ha, hg]; exact groups i hi hz

/-- Every zone is evaluated from the state the evaluation began in, whatever the zones before it did. -/
theorem evaluateAll_worked (z : Nat) (hz : z < 16) (s : State) : ZoneWorked s z (evaluateAll s) := by
  have untouched : ZoneUntouched s z s := ⟨rfl, rfl, rfl, fun _ => rfl, rfl, fun _ _ _ => rfl⟩
  have zones : ZoneWorked s z (forEach 16 evaluateZone s) :=
    forEach_establishes (fun _ ht => ht.evaluateZone_self hz) s untouched 16 hz
      (fun _ _ hy ne ht => ht.evaluateZone_ne hy ne) (fun _ _ hy ne ht => ht.evaluateZone_ne hy ne)
  exact zones.of_same (by simp [evaluateAll]) (by simp [evaluateAll]) (by simp [evaluateAll]) (by simp [evaluateAll])

/-- A level after the zones are evaluated, before the closure judgement: of its record only the SHORTFALL reason can differ. -/
theorem evaluateZones_level (l : Nat) (hl : l < 8) (s : State) :
    ∃ b, getAt (forEach 16 evaluateZone s).guide.levels l =
      { getAt s.guide.levels l with reasons := { (getAt s.guide.levels l).reasons with shortfall := b } } := by
  refine forEach_holds (P := fun t => ∃ b, getAt t.guide.levels l =
    { getAt s.guide.levels l with reasons := { (getAt s.guide.levels l).reasons with shortfall := b } })
    (fun z t ⟨b, ht⟩ => ?_) 16 s ⟨_, rfl⟩
  obtain ⟨b', hb⟩ := evaluateZone_level z l hl t
  exact ⟨b', by rw [hb, ht]⟩

/-- A level after an evaluation: its reasons by the new air indices and SHORTFALL flags (R69). -/
theorem evaluateAll_level (l : Nat) (hl : l < 8) (s : State) :
    getAt (evaluateAll s).guide.levels l =
      { getAt s.guide.levels l with
        reasons := { (getAt s.guide.levels l).reasons with
          air := airReason (evaluateAll s) l (getAt s.guide.levels l).reasons.air
          shortfall := levelShort (evaluateAll s) l } } := by
  obtain ⟨b, hb⟩ := evaluateZones_level l hl s
  obtain ⟨airs, shorts⟩ := closure_congr (s := forEach 16 evaluateZone s) (t := evaluateAll s)
    (by simp [evaluateAll]) (by simp [evaluateAll])
  rw [airs, shorts, evaluateAll, judgeClosure_level l hl, hb]

/-! ## EVALUATION -/

/-- EVALUATION at its expiry, while the part runs. -/
theorem exec_evaluation {s : State} (hp : s.phase = .running) (ht : Expired s s.air.evaluationTimer) :
    exec .evaluation s = .next (evaluationExpires s) := by
  have run : running s = true := by simp [running, hp]
  change execEvaluation s = _
  simp [execEvaluation, run, ht.due]

/-- The state in which the zones are evaluated: the evaluation timer has restarted (R70). -/
def evaluationRestarted (s : State) : State :=
  { s with air := { s.air with evaluationTimer := startTimer s (s.tables.control.evaluationPeriod * second) } }

/-- The expiry of the evaluation timer, in its steps. -/
theorem evaluationExpires_eq (s : State) :
    evaluationExpires s = refreshSigns (evaluateAll (evaluationRestarted s)) := rfl

/-- Every zone is evaluated by EVALUATION, from the state before it: the restart of the timer and the signs leave it as it is. -/
theorem evaluationExpires_worked (z : Nat) (hz : z < 16) (s : State) : ZoneWorked s z (evaluationExpires s) := by
  obtain ⟨tables, record, gasHigh, flag, groups⟩ : ZoneWorked (evaluationRestarted s) z (evaluationExpires s) :=
    (evaluateAll_worked z hz _).of_same (by simp [evaluationExpires_eq]) (by simp [evaluationExpires_eq])
      (by simp [evaluationExpires_eq]) (by simp [evaluationExpires_eq])
  exact ⟨tables, record, gasHigh, flag, groups⟩

/-- A level after EVALUATION. -/
theorem evaluationExpires_level (l : Nat) (hl : l < 8) (s : State) :
    getAt (evaluationExpires s).guide.levels l =
      { getAt s.guide.levels l with
        reasons := { (getAt s.guide.levels l).reasons with
          air := airReason (evaluationExpires s) l (getAt s.guide.levels l).reasons.air
          shortfall := levelShort (evaluationExpires s) l } } := by
  have level : (evaluationExpires s).guide.levels = (evaluateAll (evaluationRestarted s)).guide.levels := by
    simp [evaluationExpires_eq]
  obtain ⟨airs, shorts⟩ := closure_congr (s := evaluateAll (evaluationRestarted s)) (t := evaluationExpires s)
    (by simp [evaluationExpires_eq]) (by simp [evaluationExpires_eq])
  rw [airs, shorts, level]
  exact evaluateAll_level l hl (evaluationRestarted s)

/-- Only the ring interface, command delivery and the air, fan, guidance, lighting and fault blocks move at EVALUATION. -/
theorem evaluationExpires_blocks (s : State) :
    evaluationExpires s = { s with
      ring := (evaluationExpires s).ring, delivery := (evaluationExpires s).delivery, air := (evaluationExpires s).air
      fans := (evaluationExpires s).fans, guide := (evaluationExpires s).guide, light := (evaluationExpires s).light
      faults := (evaluationExpires s).faults } := by
  have frame := evaluationExpires_frame s
  generalize evaluationExpires s = t at frame ⊢
  cases t
  simp_all

/-- The evaluation timer restarts with the period as it stands (R70). -/
theorem evaluationExpires_timer (s : State) :
    (evaluationExpires s).air.evaluationTimer = some (s.clock + s.tables.control.evaluationPeriod * second) := by
  simp [evaluationExpires_eq, evaluationRestarted]

/-- Settles O22: the new record of a zone holds the decayed load, and the traffic index is worked out from it. -/
theorem trafficLoadDecays : Obligations.TrafficLoadDecays := by
  intro s hp ht
  refine ⟨_, exec_evaluation hp ht, fun z hz => ?_⟩
  have record := (evaluationExpires_worked z hz s).record
  have load : (getAt (evaluationExpires s).air.zones z).load
      = decayed (getAt s.tables.zones z) (getAt s.air.zones z).load := by rw [record]; rfl
  have index : (getAt (evaluationExpires s).air.zones z).trafficIndex
      = trafficIndex (getAt s.tables.zones z) (decayed (getAt s.tables.zones z) (getAt s.air.zones z).load) := by
    rw [record]; rfl
  dsimp only
  rw [load, index]
  refine ⟨fun _ => ?_, fun h0 => ?_, fun h0 hd => ?_, fun h0 hd => ?_, fun hd h1 => ?_, decayed_of_255, rfl⟩
  · rw [decayed, Nat.max_comm]
  · simp [decayed, h0]
  · have le := decay_le_load hd h0
    rw [decayed, Nat.max_comm 1]
    exact ⟨le, Nat.sub_add_cancel le⟩
  · rw [decayed, hd]; omega
  · simp [decayed, hd, h1]

/-- An evaluated zone's air index is that of the best usable sensor, or the substitute index (R58). -/
theorem evaluated_air (s : State) (z : Nat) :
    (usableSensors s z = [] →
        (evaluated s z).airIndex = (getAt s.tables.zones z).substitute ∧ (evaluated s z).source = none)
      ∧ (usableSensors s z ≠ [] → ∃ i x, (i, x) ∈ usableSensors s z ∧ (evaluated s z).airIndex = x
          ∧ (evaluated s z).source = some i ∧ ∀ j y, (j, y) ∈ usableSensors s z → y ≤ x ∧ (y = x → i ≤ j)) := by
  cases hb : bestSensor (usableSensors s z) with
  | none =>
    have none_usable := (bestSensor_eq_none _).mp hb
    exact ⟨fun _ => by simp [evaluated, hb], fun h => absurd none_usable h⟩
  | some p =>
    obtain ⟨mem, best⟩ := bestSensor_first (usableSensors_sorted s z) hb
    refine ⟨fun h => absurd mem (by simp [h]), fun _ => ⟨p.1, p.2, mem, ?_, ?_, fun j y hy => best (j, y) hy⟩⟩
    · simp [evaluated, hb]
    · simp [evaluated, hb]

/-- When no zone of a level reaches its closure index, its AIR reason ends if none reaches its release index either, and
otherwise stands as it stood (R109). -/
theorem airReason_of_below {s : State} {l : Nat}
    (below : ∀ z, z ∈ zonesOf s l → (getAt s.air.zones z).airIndex < (getAt s.tables.levels l).closure) (was : Bool) :
    airReason s l was =
      if ∀ z ∈ zonesOf s l, (getAt s.air.zones z).airIndex < (getAt s.tables.levels l).release then false else was := by
  have closed : ¬ ((zonesOf s l).any fun z =>
      decide ((getAt s.tables.levels l).closure ≤ (getAt s.air.zones z).airIndex)) = true := by
    rw [List.any_eq_true]
    rintro ⟨z, mem, reaches⟩
    exact absurd (below z mem) (Nat.not_lt.mpr (of_decide_eq_true reaches))
  rw [airReason, if_neg closed]
  simp only [List.all_eq_true, decide_eq_true_eq]

/-- When a zone of a level reaches its closure index, the level has AIR (R109). -/
theorem airReason_of_reached {s : State} {l z : Nat} (mem : z ∈ zonesOf s l)
    (reaches : (getAt s.tables.levels l).closure ≤ (getAt s.air.zones z).airIndex) (was : Bool) :
    airReason s l was = true := by
  rw [airReason, if_pos (List.any_eq_true.mpr ⟨z, mem, decide_eq_true reaches⟩)]

/-- A level is short exactly while a zone of it is in shortfall (R110). -/
theorem levelShort_iff (s : State) (l : Nat) :
    levelShort s l = true ↔ ∃ z, z ∈ zonesOf s l ∧ (getAt s.air.zones z).shortfall = true := by
  simp only [levelShort, List.any_eq_true]

/-- Settles O23, from what EVALUATION leaves of each zone (`evaluationExpires_worked`) and of each level
(`evaluationExpires_level`). -/
theorem evaluationWorksZones : Obligations.EvaluationWorksZones := by
  refine ⟨fun e demand dwell st ordered => ⟨fun hs => ?_, fun hs hd => ?_⟩, fun s z i x => ?_, fun s hp ht => ?_⟩
  · have falls := nextStage_falls ordered (st := st) (demand := demand) dwell
    cases st <;> exact falls hs
  · have rises := nextStage_rises ordered (st := st) (demand := demand) dwell hs
    cases st with
    | off => rw [rises hd, reached]; simp [show e.up1 ≤ demand from hd]
    | low => rw [rises hd, reached]; simp [show e.up2 ≤ demand from hd]
    | mid => rw [rises hd, reached]; simp [show e.up3 ≤ demand from hd]
    | high => exact absurd rfl hs
  · rw [mem_usableSensors, usableIndex_eq_some, sensorIndex_eq_some]
    rfl
  · have tables : (evaluationExpires s).tables = s.tables := by simp
    have zones (l : Nat) (z : Nat) : z ∈ zonesOf (evaluationExpires s) l ↔ z < 16 ∧ (getAt s.tables.zones z).level = l := by
      rw [mem_zonesOf, tables]
    refine ⟨_, exec_evaluation hp ht, fun l hl => ?_, fun i z hi hz hg => ?_, evaluationExpires_blocks s, by simp,
      evaluationExpires_timer s, fun z hz => ?_⟩
    · have level := evaluationExpires_level l hl s
      have air := congrArg (fun n => n.reasons.air) level
      have short := congrArg (fun n => n.reasons.shortfall) level
      dsimp only at air short ⊢
      rw [air, short]
      refine ⟨level, (levelShort_iff _ l).trans (exists_congr fun z => and_congr_left' (zones l z)),
        fun ⟨z, mem, reaches⟩ => ?_, fun below => ?_, fun below ⟨z, mem, holds⟩ => ?_⟩
      · exact airReason_of_reached ((zones l z).mpr mem) (by rwa [tables]) _
      · rw [airReason_of_below (fun z mem => by rw [tables]; exact (below z ((zones l z).mp mem)).1), tables,
          if_pos (fun z mem => (below z ((zones l z).mp mem)).2)]
      · rw [airReason_of_below (fun z mem => by rw [tables]; exact below z ((zones l z).mp mem)), tables,
          if_neg (fun all => absurd (all z ((zones l z).mpr mem)) (Nat.not_lt.mpr holds))]
    · obtain ⟨-, record, -, -, groups⟩ := evaluationExpires_worked z hz s
      obtain ⟨causes, hold, output⟩ := groups i hi hg
      have index : (getAt (evaluationExpires s).air.zones z).airIndex = (evaluated s z).airIndex := by rw [record]
      exact ⟨by rw [index]; exact causes, hold, output⟩
    · obtain ⟨-, record, gasHigh, flag, -⟩ := evaluationExpires_worked z hz s
      obtain ⟨substitute, best⟩ := evaluated_air s z
      dsimp only
      rw [gasHigh, record]
      exact ⟨rfl, rfl, substitute, best, rfl, rfl, rfl, rfl, rfl, rfl, flag⟩

end Sys2Proof.Machine
end
